-- ==== Sys2Proof/Word.lean ====
section
/-! DEFINITION. The word types of the hardware: XLEN = 8, ALEN = 16 (00_scope.md R8) and the 9-bit selector (10_state.md R44). -/

namespace Sys2Proof

/-- One byte: the CPU's data width XLEN (R8). -/
abbrev Byte := BitVec 8

/-- One address: the width ALEN of the program counter and of the ADDR bus (R8). -/
abbrev Word := BitVec 16

/-- A value of the selector `IR`: an opcode 0..255 or one of three reserved codes (R44). -/
abbrev Selector := BitVec 9

end Sys2Proof
end

