-- ==== Sys2Proof/Config.lean ====
section
/-! DEFINITION. The parameters of 00_scope.md R8: fixed for one machine, plain data, never changed by a step. -/

namespace Sys2Proof

/-- A device of the system as `EVAL_ORDER` names it (R8, R70): the CPU, or the memory device of that index. -/
inductive DeviceId where
  | cpu
  | mem (k : Nat)
deriving DecidableEq, Repr

/-- A handle to a bus: the nine buses of the reference platform (R90), or a further one of the platform's own. -/
inductive BusId where
  | clk | addr | data | rw | sync | res | nmi | irq | gnd
  | aux (n : Nat)
deriving DecidableEq, Repr

/-- The CPU's ports, "eight bus handles" (R40): the CPU "only references (does not own) the buses it is wired to". Any
handle may stand at any port, also one handle at two. -/
structure Ports where
  /-- In, boolean: the input clock. -/
  clk : BusId
  /-- Out, 16 bits: the address of the current bus cycle. -/
  addr : BusId
  /-- In and out, 8 bits: sampled on a rising edge, driven in a write cycle. -/
  data : BusId
  /-- Out, boolean: the IO direction, 1 reads, 0 writes. -/
  rw : BusId
  /-- Out, boolean: 1 in the bus cycle that fetches an opcode. -/
  sync : BusId
  /-- In, boolean: reset request, asserted at 0. -/
  res : BusId
  /-- In, boolean: non-maskable interrupt request, on the transition from 1 to 0. -/
  nmi : BusId
  /-- In, boolean: interrupt request, asserted at 0. -/
  irq : BusId
deriving DecidableEq, Repr

/-- The wiring of the reference platform (R90): each port to the bus of its name. -/
def Ports.reference : Ports :=
  { clk := .clk, addr := .addr, data := .data, rw := .rw, sync := .sync, res := .res, nmi := .nmi, irq := .irq }

/-- The buses the CPU writes (R40, R154). -/
def Ports.outputs (p : Ports) : List BusId :=
  [p.addr, p.data, p.rw, p.sync]

/-- The OPEN parameters of R8 that belong to the CPU and the driver.
`AW`, `DW` and the read/write line are fields of each memory device; a bus carries its own kind and width. -/
structure Config where
  /-- `RESET_VECTOR`: address of the low byte of the reset vector. -/
  resetVector : Word
  /-- `NMI_VECTOR`. -/
  nmiVector : Word
  /-- `IRQ_VECTOR`, used by IRQ and BRK. -/
  irqVector : Word
  /-- `STACK_BASE`: base address of the stack page. -/
  stackBase : Word
  /-- `CLK_DIV`: the divided clock toggles every so many ticks. -/
  clkDiv : Nat
  /-- `OPTABLE`, written as its differences from opcode_table.json: the pair (op, r) says that opcode value op
  acts as the table's row r does. The empty list is the default table. -/
  optable : List (Byte × Byte)
  /-- `EVAL_ORDER`: the fixed order in which the driver evaluates the devices. -/
  evalOrder : List DeviceId
  /-- The wiring of buses to the CPU's ports (R40, U19; the last list of 92_eei_decisions.md). -/
  ports : Ports
deriving DecidableEq, Repr

/-- The defaults of R8 (decisions D1, D3, D4) and the reference platform's `CLK_DIV`, `EVAL_ORDER` and wiring
(R90). -/
def Config.default : Config where
  resetVector := 0xFFFC#16
  nmiVector := 0xFFFA#16
  irqVector := 0xFFFE#16
  stackBase := 0x0100#16
  clkDiv := 1
  optable := []
  evalOrder := [.cpu, .mem 0]
  ports := Ports.reference

/-- `BUS_MAX_WIDTH` (R8): greatest declared width of a bus. -/
def Config.busMaxWidth : Nat := 24

/-- `MEM_AW_CAP` (R8): cap on a memory device's address width. -/
def Config.memAwCap : Nat := 24

/-- `SEL_RESET` (R8, R44). -/
def Config.selReset : Selector := 0x100#9

/-- `SEL_NMI` (R8, R44). -/
def Config.selNmi : Selector := 0x101#9

/-- `SEL_IRQ` (R8, R44). -/
def Config.selIrq : Selector := 0x102#9

end Sys2Proof
end

