-- ==== Sys2Proof/Machine/State.lean ====
section
/-! DEFINITION. The state of the block as plain data (10_state.md): the CPU's registers and control state, the buses, the
memory devices, the parameters, and the coming inputs of the outside world; the two reason types; the state after reset. -/

namespace Sys2Proof.Machine

/-- The five kinds of bus (R60); a divided clock carries its divisor (R69). -/
inductive BusKind where
  | standard
  | fixedHigh
  | fixedLow
  | openCollector
  | dividedClock (n : Nat)
deriving DecidableEq, Repr

/-- A bus (R53). Its mask is `2 ^ width - 1`; a boolean bus has width 1. -/
structure Bus where
  kind : BusKind
  width : Nat
  /-- The value standing on the bus, already masked. -/
  value : Nat
  /-- The per-tick write counter. -/
  count : Nat
  /-- The value the bus held at its most recent `reset()` (R66). -/
  last : Nat
  /-- The tick counter of a divided clock (R69). -/
  div : Nat
deriving DecidableEq, Repr

/-- All buses of the system, each under its own handle. Which of them the CPU's eight ports (R40) are wired to is
`Config.ports`. -/
structure Buses where
  clk : Bus
  addr : Bus
  data : Bus
  rw : Bus
  sync : Bus
  res : Bus
  nmi : Bus
  irq : Bus
  gnd : Bus
  aux : List Bus
deriving DecidableEq, Repr

/-- The bytes of a memory device that differ from 0x00, in strictly rising order of address. -/
abbrev Memory := List Host.Cell

/-- A memory device (R54, R81): its widths, its handles and its byte array. No `rwBus` means a ROM (R83). -/
structure MemDevice where
  aw : Nat
  dw : Nat
  addrBus : BusId
  dataBus : BusId
  enBus : BusId
  rwBus : Option BusId
  cells : Memory
deriving DecidableEq, Repr

/-- The CPU: register file (R20 to R25, R30) and control state (R41 to R47). A one-bit register is a `Bool`, true for 1. -/
structure Cpu where
  a : Byte
  x : Byte
  y : Byte
  sp : Byte
  /-- The status byte N V 1 B D I Z C (R30). -/
  p : Byte
  pc : Word
  paddr : Word
  pdata : Byte
  /-- Staged direction: true reads, false writes (R41). -/
  prw : Bool
  psync : Bool
  oaddr : Word
  odata : Byte
  orw : Bool
  osync : Bool
  dbuf : Byte
  tmp : Byte
  tl : Byte
  ir : Selector
  /-- The micro-step counter `CYC` (R45). -/
  cyc : Nat
  nmiPend : Bool
  irqPend : Bool
  resPend : Bool
  lastClk : Bool
  lastNmi : Bool
deriving DecidableEq, Repr

/-- What the outside world does in one tick: the writes of the input providers at T3 in order (R75), and whether the
driver leaves the clock unchanged at T2 (R379). -/
structure TickInput where
  writes : List (BusId × Nat)
  holdClock : Bool
deriving DecidableEq, Repr

/-- The whole system. -/
structure State where
  cfg : Config
  cpu : Cpu
  buses : Buses
  mems : List MemDevice
  /-- What the outside world does in the coming ticks, the next tick first; ticks past the end are idle. -/
  inputs : List TickInput
deriving DecidableEq, Repr

/-- Reasons to stop with a fault: none. "The block raises no synchronous exception" (R369), and no behaviour of
93_implementation_defined.md has the treatment `fault` or `stuck`. -/
inductive Fault where
deriving DecidableEq, Repr

/-- Reasons why the model gives a step no meaning. -/
inductive Refusal where
  /-- Raised by an arm of `exec` that has no meaning yet; no arm raises it now. Safe: the model stops. -/
  | notModelled (mnemonic : String)
  /-- Raised by ADC and SBC while `P.D = 1`, in the micro-step that would apply the operation: the spec itself refuses the
  step (R224, U13, D20). Safe: the model stops where the hardware goes on with a result nobody states. -/
  | decimalMode
  /-- Raised by `step` alone, never by a meaning, on a system whose `EVAL_ORDER` does not evaluate every device exactly once
  with the CPU before the memory devices it addresses: "an order violating the constraint is `refuse`" (U18, R425). Safe:
  the model stops. -/
  | evalOrder
  /-- Raised by `step` alone, never by a meaning, on a system with a memory device whose data width is 0 or above 8:
  "`refuse`: `DW` is constrained to 1..8" (U7, R80, D26). Safe: the model stops. -/
  | dataWidth
  /-- Raised by `State.tick` (and by `step`'s dispatch) for a selector value or micro-step number outside the tables of the
  spec, which no run from power-on reaches (R44, R45). Safe: the model stops. -/
  | noMicroStep
deriving DecidableEq, Repr

/-- The machine right after the RESET pseudo-instruction (R51, R420): on the reference platform (R90) with nothing loaded
into memory, at tick 4 of the boot of P1. What R51 does not give follows from that boot run (log entry 4); `tmp` is
log entry 3. -/
def State.reset : State where
  cfg := Config.default
  cpu := {
    a := 0x00#8, x := 0x00#8, y := 0x00#8, sp := 0xFF#8, p := 0x30#8, pc := 0x0000#16
    paddr := 0x0000#16, pdata := 0x00#8, prw := true, psync := true
    oaddr := 0xFFFD#16, odata := 0x00#8, orw := true, osync := false
    dbuf := 0x00#8, tmp := 0x00#8, tl := 0x00#8
    ir := Config.selReset, cyc := 0
    nmiPend := false, irqPend := false, resPend := false, lastClk := true, lastNmi := true }
  buses := {
    clk := { kind := .dividedClock 1, width := 1, value := 1, count := 0, last := 0, div := 0 }
    addr := { kind := .standard, width := 16, value := 0xFFFD, count := 1, last := 0xFFFD, div := 0 }
    data := { kind := .standard, width := 8, value := 0, count := 1, last := 0, div := 0 }
    rw := { kind := .standard, width := 1, value := 1, count := 1, last := 1, div := 0 }
    sync := { kind := .standard, width := 1, value := 0, count := 1, last := 0, div := 0 }
    res := { kind := .standard, width := 1, value := 1, count := 1, last := 1, div := 0 }
    nmi := { kind := .openCollector, width := 1, value := 1, count := 0, last := 1, div := 0 }
    irq := { kind := .openCollector, width := 1, value := 1, count := 0, last := 1, div := 0 }
    gnd := { kind := .fixedLow, width := 1, value := 0, count := 0, last := 0, div := 0 }
    aux := [] }
  mems := [{
    aw := 16, dw := 8, addrBus := .addr, dataBus := .data, enBus := .gnd, rwBus := some .rw, cells := [] }]
  inputs := []

end Sys2Proof.Machine
end

