-- ==== Sys2Proof/Machine/Flags.lean ====
section
/-! DEFINITION. The status byte and every flag computation of the spec (10_state.md R30 to R32, R39; 42_arith_logic.md
R220 to R231; 43_shift_incdec.md R250 to R255). -/

namespace Sys2Proof.Machine

/-- The named bits of `P` (R30). -/
inductive Flag where
  | c | z | i | d | b | v | n
deriving DecidableEq, Repr

/-- The bit positions of R30. -/
def flagBit : Flag → Nat
  | .c => 0
  | .z => 1
  | .i => 2
  | .d => 3
  | .b => 4
  | .v => 6
  | .n => 7

/-- The byte with that flag's bit alone. -/
def flagMask (f : Flag) : Byte :=
  1#8 <<< flagBit f

/-- Read one flag of a status byte. -/
def getFlag (f : Flag) (p : Byte) : Bool :=
  p.getLsbD (flagBit f)

/-- Write one flag of a status byte; the other seven bits stay. -/
def setFlag (f : Flag) (on : Bool) (p : Byte) : Byte :=
  if on then p ||| flagMask f else p &&& ~~~(flagMask f)

/-- Bits 5 and 4 of `P`, always 1: "PLP and RTI compute `P <- pulled | 0x30`" (R39). -/
def forceStatus (p : Byte) : Byte :=
  p ||| 0x30#8

/-- `P.f` of the CPU. -/
def Cpu.flag (f : Flag) (c : Cpu) : Bool :=
  getFlag f c.p

/-- `P.f <- on`. -/
def Cpu.setFlag (f : Flag) (on : Bool) (c : Cpu) : Cpu :=
  { c with p := Machine.setFlag f on c.p }

/-- `setNZ(v)`: "`P.Z <- (v = 0)`; `P.N <- v[7]`" (R32). -/
def Cpu.setNZ (v : Byte) (c : Cpu) : Cpu :=
  (c.setFlag .z (decide (v = 0#8))).setFlag .n v.msb

/-- What the adder returns (R220). -/
structure AddResult where
  r : Byte
  carry : Bool
  overflow : Bool
deriving DecidableEq, Repr

/-- `add8(a, m, cin)` (R220). -/
def add8 (a m : Byte) (cin : Bool) : AddResult :=
  let t := a.toNat + m.toNat + cin.toNat
  let r := BitVec.ofNat 8 t
  { r := r, carry := decide (0x100 ≤ t), overflow := decide (a.msb = m.msb) && decide (r.msb ≠ a.msb) }

/-- The subtraction of R222: `add8(A, M ^ 0xFF, C)`. -/
def sub8 (a m : Byte) (cin : Bool) : AddResult :=
  add8 a (m ^^^ 0xFF#8) cin

/-- The flags of an addition or subtraction: `P.C <- c; P.V <- v; setNZ(r)` (R221, R222). -/
def Cpu.setAdd (t : AddResult) (c : Cpu) : Cpu :=
  ((c.setFlag .c t.carry).setFlag .v t.overflow).setNZ t.r

/-- The flags of a compare: `t <- (R - M) mod 256; P.C <- (R >= M); setNZ(t)`; `P.V` is not written (R228 to R230). -/
def Cpu.setCompare (r m : Byte) (c : Cpu) : Cpu :=
  (c.setFlag .c (decide (m ≤ r))).setNZ (r - m)

/-- The flags of BIT: `P.Z <- ((A & M) = 0); P.N <- M[7]; P.V <- M[6]` (R231). -/
def Cpu.setBit (a m : Byte) (c : Cpu) : Cpu :=
  ((c.setFlag .z (decide (a &&& m = 0#8))).setFlag .n (m.getLsbD 7)).setFlag .v (m.getLsbD 6)

/-- A shifted byte and the bit shifted out. -/
structure ShiftResult where
  r : Byte
  carry : Bool
deriving DecidableEq, Repr

/-- ASL: `P.C <- v[7]; r <- (v << 1) mod 256` (R250). -/
def asl8 (v : Byte) : ShiftResult :=
  { r := v <<< 1, carry := v.getLsbD 7 }

/-- LSR: `P.C <- v[0]; r <- v >> 1` (R251). -/
def lsr8 (v : Byte) : ShiftResult :=
  { r := v >>> 1, carry := v.getLsbD 0 }

/-- ROL: `P.C <- v[7]; r <- ((v << 1) | cin) mod 256` (R252). -/
def rol8 (v : Byte) (cin : Bool) : ShiftResult :=
  { r := (v <<< 1) ||| (BitVec.ofBool cin).setWidth 8, carry := v.getLsbD 7 }

/-- ROR: `P.C <- v[0]; r <- (v >> 1) | (cin << 7)` (R253). -/
def ror8 (v : Byte) (cin : Bool) : ShiftResult :=
  { r := (v >>> 1) ||| ((BitVec.ofBool cin).setWidth 8 <<< 7), carry := v.getLsbD 0 }

/-- The flags of a shift or rotate: carry, then `setNZ(r)` (R250 to R253). -/
def Cpu.setShift (t : ShiftResult) (c : Cpu) : Cpu :=
  (c.setFlag .c t.carry).setNZ t.r

end Sys2Proof.Machine
end

