-- ==== Sys2Proof/Machine/Bus.lean ====
section
/-! DEFINITION. The signal bus with its write-conflict detection (20_memory.md R60 to R69) in its five kinds, and the buses
of the system by handle. -/

namespace Sys2Proof.Machine

/-- The value a bus has at creation and, but for a clock, after `reset()` (R53, R64, R67, R68). -/
def BusKind.idle : BusKind → Nat
  | .standard => 0
  | .fixedHigh => 1
  | .fixedLow => 0
  | .openCollector => 1
  | .dividedClock _ => 0

/-- A bus as created at system assembly (R53): its kind's idle value, counters 0. -/
def Bus.new (kind : BusKind) (width : Nat) : Bus :=
  { kind := kind, width := width, value := kind.idle, count := 0, last := kind.idle, div := 0 }

/-- "A bit-mask derived from declared width" (R53). -/
def Bus.mask (b : Bus) : Nat :=
  2 ^ b.width - 1

/-- `read()` (R62): the value; a fixed source reads its level always. -/
def Bus.read (b : Bus) : Nat :=
  match b.kind with
  | .fixedHigh => 1
  | .fixedLow => 0
  | _ => b.value

/-- `read()` of a boolean bus as a level. -/
def Bus.level (b : Bus) : Bool :=
  b.read != 0

/-- `write(v)` (R61, R67, R68, R69): stored masked, counted as a conflict, ANDed, or ignored, by kind. -/
def Bus.write (v : Nat) (b : Bus) : Bus :=
  match b.kind with
  | .standard => { b with value := v &&& b.mask, count := b.count + 1 }
  | .fixedHigh => { b with count := b.count + 1 }
  | .fixedLow => { b with count := b.count + 1 }
  | .openCollector => { b with value := b.value &&& v }
  | .dividedClock _ => b

/-- `hasConflict()` (R63, R67, R68, R69). -/
def Bus.hasConflict (b : Bus) : Bool :=
  match b.kind with
  | .standard => decide (1 < b.count)
  | .fixedHigh => decide (1 ≤ b.count)
  | .fixedLow => decide (1 ≤ b.count)
  | .openCollector => false
  | .dividedClock _ => false

/-- `reset()` (R64, R66 to R69): every kind first copies its value to `last`. -/
def Bus.reset (b : Bus) : Bus :=
  match b.kind with
  | .standard => { b with last := b.value, value := 0, count := 0 }
  | .fixedHigh => { b with last := b.value, count := 0 }
  | .fixedLow => { b with last := b.value, count := 0 }
  | .openCollector => { b with last := b.value, value := 1, count := 0 }
  | .dividedClock _ => { b with last := b.value }

/-- `advance()` of a divided clock (R69); no other kind has the operation. -/
def Bus.advance (b : Bus) : Bus :=
  match b.kind with
  | .dividedClock n =>
    if b.div + 1 = n then { b with div := 0, value := if b.value = 0 then 1 else 0 } else { b with div := b.div + 1 }
  | _ => b

/-- What a handle to a bus that the system does not have reads as: an undriven boolean bus. -/
def Bus.absent : Bus :=
  Bus.new .standard 1

/-- The system has a bus of this handle. -/
def Buses.has (bs : Buses) : BusId → Bool
  | .aux n => decide (n < bs.aux.length)
  | _ => true

/-- The bus of a handle. -/
def Buses.get (bs : Buses) : BusId → Bus
  | .clk => bs.clk
  | .addr => bs.addr
  | .data => bs.data
  | .rw => bs.rw
  | .sync => bs.sync
  | .res => bs.res
  | .nmi => bs.nmi
  | .irq => bs.irq
  | .gnd => bs.gnd
  | .aux n => bs.aux.getD n Bus.absent

/-- Apply an operation to the bus of a handle. -/
def Buses.modify (id : BusId) (f : Bus → Bus) (bs : Buses) : Buses :=
  match id with
  | .clk => { bs with clk := f bs.clk }
  | .addr => { bs with addr := f bs.addr }
  | .data => { bs with data := f bs.data }
  | .rw => { bs with rw := f bs.rw }
  | .sync => { bs with sync := f bs.sync }
  | .res => { bs with res := f bs.res }
  | .nmi => { bs with nmi := f bs.nmi }
  | .irq => { bs with irq := f bs.irq }
  | .gnd => { bs with gnd := f bs.gnd }
  | .aux n => { bs with aux := bs.aux.modify n f }

/-- Apply an operation to every bus. -/
def Buses.map (f : Bus → Bus) (bs : Buses) : Buses :=
  { clk := f bs.clk, addr := f bs.addr, data := f bs.data, rw := f bs.rw, sync := f bs.sync, res := f bs.res
    nmi := f bs.nmi, irq := f bs.irq, gnd := f bs.gnd, aux := bs.aux.map f }

/-- T1: "the driver calls `reset()` on every bus" (R70). -/
def Buses.reset (bs : Buses) : Buses :=
  bs.map Bus.reset

/-- T2: "the driver calls `advance()` on every divided clock" (R70), or leaves the clock unchanged (R379). -/
def Buses.advance (hold : Bool) (bs : Buses) : Buses :=
  if hold then bs else bs.map Bus.advance

/-- T3: the writes of the input providers, in order (R70, R75). -/
def Buses.drive (writes : List (BusId × Nat)) (bs : Buses) : Buses :=
  writes.foldl (fun acc w => acc.modify w.1 (Bus.write w.2)) bs

/-- The handles of all buses of the system. -/
def Buses.ids (bs : Buses) : List BusId :=
  [.clk, .addr, .data, .rw, .sync, .res, .nmi, .irq, .gnd] ++ (List.range bs.aux.length).map .aux

/-- T5: "the set of buses in conflict" (R70, R74). -/
def Buses.conflicts (bs : Buses) : List BusId :=
  bs.ids.filter fun id => (bs.get id).hasConflict

/-- A bus as R53 and R60 allow it: at most 24 bits wide, its value masked, a boolean kind one bit wide, and a divided clock
with `N >= 1` whose tick counter is in 0..N-1. -/
def Bus.wf (b : Bus) : Bool :=
  decide (1 ≤ b.width) && decide (b.width ≤ Config.busMaxWidth) && decide (b.value ≤ b.mask) &&
    (match b.kind with
     | .standard => true
     | .dividedClock n => decide (b.width = 1) && decide (b.div < n)
     | _ => decide (b.width = 1))

end Sys2Proof.Machine
end

