-- ==== Sys2Proof/Machine/MemDevice.lean ====
section
/-! DEFINITION. The memory device's read/write controller (20_memory.md R80 to R86) and the byte array behind it. -/

namespace Sys2Proof.Machine

/-- What an address that is not listed reads as: the array is "zero-initialized at construction" (R54). -/
def Memory.unlisted : Byte :=
  0x00#8

/-- Read one byte of a byte array. -/
def Memory.read : Memory → Nat → Byte
  | [], _ => Memory.unlisted
  | (k, v) :: m, a => if a = k then v else Memory.read m a

/-- Write one byte, keeping the canonical form: addresses strictly rising, no entry equal to the unlisted byte. -/
def Memory.write : Memory → Nat → Byte → Memory
  | [], a, v => if v = Memory.unlisted then [] else [(a, v)]
  | (k, w) :: m, a, v =>
    if a < k then if v = Memory.unlisted then (k, w) :: m else (a, v) :: (k, w) :: m
    else if a = k then if v = Memory.unlisted then m else (a, v) :: m
    else (k, w) :: Memory.write m a v

/-- The keys of a memory rise strictly from `lo` on and no entry is the unlisted byte. -/
def Memory.wfFrom : Nat → Memory → Bool
  | _, [] => true
  | lo, (k, v) :: m => decide (lo ≤ k) && decide (v ≠ Memory.unlisted) && Memory.wfFrom (k + 1) m

/-- The canonical form of a memory. -/
def Memory.wf (m : Memory) : Bool :=
  Memory.wfFrom 0 m

/-- "`AW <- min(requested, 24)`; the clamp is never a runtime error" (R80); the array is zero (R54). -/
def MemDevice.new (awRequested dw : Nat) (addrBus dataBus enBus : BusId) (rwBus : Option BusId) : MemDevice :=
  { aw := min awRequested Config.memAwCap, dw := dw, addrBus := addrBus, dataBus := dataBus, enBus := enBus
    rwBus := rwBus, cells := [] }

/-- `addr = ADDRBUS.read() & addrMask` (R82). -/
def MemDevice.index (d : MemDevice) (addr : Nat) : Nat :=
  addr &&& (2 ^ d.aw - 1)

/-- `v & dataMask` (R82). -/
def MemDevice.dataMasked (d : MemDevice) (v : Byte) : Byte :=
  v &&& BitVec.ofNat 8 (2 ^ d.dw - 1)

/-- The byte an enabled device drives for an address (R82). -/
def MemDevice.readAt (d : MemDevice) (addr : Nat) : Byte :=
  d.dataMasked (Memory.read d.cells (d.index addr))

/-- The store of an enabled device in a write (R82). -/
def MemDevice.writeAt (addr : Nat) (v : Byte) (d : MemDevice) : MemDevice :=
  { d with cells := Memory.write d.cells (d.index addr) (d.dataMasked v) }

/-- `evaluate()` (R82): with the enable line at 0, store if there is a read/write line that reads 0, else drive the data bus. -/
def MemDevice.evaluate (bs : Buses) (d : MemDevice) : MemDevice × Buses :=
  if (bs.get d.enBus).read = 0 then
    if (match d.rwBus with | some line => (bs.get line).read == 0 | none => false) then
      (d.writeAt (bs.get d.addrBus).read (BitVec.ofNat 8 (bs.get d.dataBus).read), bs)
    else (d, bs.modify d.dataBus (Bus.write (d.readAt (bs.get d.addrBus).read).toNat))
  else (d, bs)

/-- The image loader's copy of bytes into the backing store from an address on, before a run (R96). -/
def MemDevice.load (addr : Nat) (bytes : List Byte) (d : MemDevice) : MemDevice :=
  match bytes with
  | [] => d
  | b :: rest => MemDevice.load (addr + 1) rest { d with cells := Memory.write d.cells (d.index addr) b }

/-- "`DW` is taken in 1..8" (R80); U7 leaves another to refusal. -/
def MemDevice.widthOk (d : MemDevice) : Bool :=
  decide (1 ≤ d.dw) && decide (d.dw ≤ 8)

/-- The widths R80 allows: `AW` in 0..24, `DW` in 1..8. -/
def MemDevice.sizeOk (d : MemDevice) : Bool :=
  decide (d.aw ≤ Config.memAwCap) && d.widthOk

/-- The array is in canonical form and within its size of `2 ^ AW` bytes (R54). -/
def MemDevice.arrayOk (d : MemDevice) : Bool :=
  Memory.wf d.cells && d.cells.all fun e => decide (e.1 < 2 ^ d.aw)

end Sys2Proof.Machine
end

