-- ==== Sys2Proof/Machine/Ops.lean ====
section
/-! DEFINITION. The named operations every meaning is built from: byte and word helpers, the staging primitives of
40_sequencer.md R156, micro-steps, taking an exception and returning from it, memory as the CPU sees it, one clock cycle
(R160), and running a micro-step sequence from dispatch to retire (R179). -/

namespace Sys2Proof.Machine

/-- The state with another CPU, everything else as it was. -/
def State.withCpu (c : Cpu) (s : State) : State :=
  { s with cpu := c }

/-! ### Bytes and words (00_scope.md R9, R10) -/

/-- `hi:lo` (R9). -/
def word (hi lo : Byte) : Word :=
  hi ++ lo

/-- `w[15:8]`. -/
def hiByte (w : Word) : Byte :=
  w.extractLsb' 8 8

/-- `w[7:0]`. -/
def loByte (w : Word) : Byte :=
  w.extractLsb' 0 8

/-- `zext_16(v)` (R10). -/
def zext16 (v : Byte) : Word :=
  v.setWidth 16

/-- `sext_16(v)` (R10). -/
def sext16 (v : Byte) : Word :=
  v.signExtend 16

/-! ### Staging primitives (R156) -/

/-- `fetch(a)`: the next bus cycle reads `a`. -/
def Cpu.fetch (a : Word) (c : Cpu) : Cpu :=
  { c with paddr := a, prw := true, psync := false }

/-- `store(a, v)`: the next bus cycle writes `v` at `a`. -/
def Cpu.store (a : Word) (v : Byte) (c : Cpu) : Cpu :=
  { c with paddr := a, pdata := v, prw := false, psync := false }

/-- `idle`: the next bus cycle re-reads the address of this one. -/
def Cpu.idle (c : Cpu) : Cpu :=
  { c with prw := true, psync := false }

/-- `retire`: the next bus cycle fetches the opcode at `PC` with `SYNC` = 1. -/
def Cpu.retire (c : Cpu) : Cpu :=
  { c with paddr := c.pc, prw := true, psync := true }

/-- The byte that `SP` addresses: `STACK_BASE | SP` (10_state.md R24). -/
def stackAddr (cfg : Config) (sp : Byte) : Word :=
  cfg.stackBase ||| zext16 sp

/-- `push(v)`: `store(STACK_BASE | SP, v); SP <- (SP - 1) mod 256`. -/
def Cpu.push (cfg : Config) (v : Byte) (c : Cpu) : Cpu :=
  { c.store (stackAddr cfg c.sp) v with sp := c.sp - 1 }

/-- `pull`: `SP <- (SP + 1) mod 256; fetch(STACK_BASE | SP)`. -/
def Cpu.pull (cfg : Config) (c : Cpu) : Cpu :=
  { c with sp := c.sp + 1 }.fetch (stackAddr cfg (c.sp + 1))

/-- `PC <- PC + 1` (10_state.md R26: modulo 2^16). -/
def Cpu.incPc (c : Cpu) : Cpu :=
  { c with pc := c.pc + 1 }

/-! ### Micro-steps -/

/-- How a micro-step ends (R153, R156): the instruction goes on, it retires, or the spec gives it no meaning. -/
inductive MicroEnd where
  | more (c : Cpu)
  | retired (c : Cpu)
  | refuse (r : Refusal)
deriving DecidableEq, Repr

/-- A micro-step: a function of the CPU alone; `DBUF` holds the byte its bus cycle read (R160). -/
abbrev Micro := Cpu → MicroEnd

/-- Micro-step 0 of every mapped opcode: "`PC <- PC + 1; fetch(PC)` (with the new `PC`)" (R158). -/
def microZero : Micro := fun c =>
  .more (c.incPc.fetch (c.pc + 1))

/-- The last micro-step of an instruction that has nothing left to do but `retire` (R159). -/
def microRetire : Micro := fun c =>
  .retired c.retire

/-! ### Taking an exception and returning from it (60_exceptions.md R365 to R367, R371; 46_system.md R340, R341) -/

/-- What distinguishes the entries NMI, IRQ and BRK, which share one shape: "push program counter (high byte, then low
byte) and status flags onto the stack, then fetch a 16-bit vector into the program counter". -/
structure Entry where
  /-- Where the vector's low byte lies. -/
  vector : Word
  /-- `P.I <- 1` in the micro-step that pushes the status, before the byte is staged (NMI, R366). -/
  maskAtPush : Bool
  /-- `P.I <- 1` in the micro-step after the status push (IRQ, R367; BRK, R340). -/
  maskAfterPush : Bool
  /-- `P.I <- 0; nmiPend <- 0` in the last micro-step (NMI, R366). -/
  completesNmi : Bool
  /-- The pushed byte is `P | 0x30` (BRK, R340) and not `P` as held (NMI, IRQ). -/
  forcesBits : Bool
deriving DecidableEq, Repr

/-- Stage the push of the status byte. -/
def Entry.pushStatus (e : Entry) (cfg : Config) (c : Cpu) : Cpu :=
  let c1 := if e.maskAtPush then c.setFlag .i true else c
  c1.push cfg (if e.forcesBits then forceStatus c1.p else c1.p)

/-- Set the interrupt-disable bit after the status push, where the entry does. -/
def Entry.mask (e : Entry) (c : Cpu) : Cpu :=
  if e.maskAfterPush then c.setFlag .i true else c

/-- What completion clears. -/
def Entry.complete (e : Entry) (c : Cpu) : Cpu :=
  if e.completesNmi then { c.setFlag .i false with nmiPend := false } else c

/-- The six micro-steps of an exception entry, from the push of `PC[15:8]` to the handler's first opcode fetch staged
(R366, R367; micro-steps 1 to 6 of BRK, R340). -/
def entrySequence (cfg : Config) (e : Entry) : List Micro :=
  [ fun c => .more (c.push cfg (hiByte c.pc)),
    fun c => .more (c.push cfg (loByte c.pc)),
    fun c => .more (e.pushStatus cfg c),
    fun c => .more ((e.mask c).fetch e.vector),
    fun c => .more ({ c with tl := c.dbuf }.fetch (e.vector + 1)),
    fun c => .retired (e.complete { c with pc := word c.dbuf c.tl }).retire ]

/-- The return from an exception, RTI: `P`, then `PC` low, then `PC` high are pulled (R341, R371). -/
def returnSequence (cfg : Config) : List Micro :=
  [ microZero,
    fun c => .more c.idle,
    fun c => .more (c.pull cfg),
    fun c => .more ({ c with p := forceStatus c.dbuf }.pull cfg),
    fun c => .more ({ c with tl := c.dbuf }.pull cfg),
    fun c => .retired { c with pc := word c.dbuf c.tl }.retire ]

/-- The RESET pseudo-instruction (R365). -/
def resetSequence (cfg : Config) : List Micro :=
  [ fun c => .more ({ c with sp := 0xFF#8, p := 0x30#8, a := 0#8, x := 0#8, y := 0#8 }.fetch cfg.resetVector),
    fun c => .more ({ c with tl := c.dbuf }.fetch (cfg.resetVector + 1)),
    fun c => .retired { c with pc := word c.dbuf c.tl, resPend := false }.retire ]

/-! ### Memory as the CPU sees it (20_memory.md R91, R92, R103, R105) -/

/-- At the instruction level a device is enabled when its enable line is a fixed-low source (`State.instructionLevel`
asks that every enable line is a fixed source). -/
def MemDevice.enabled (bs : Buses) (d : MemDevice) : Bool :=
  (bs.get d.enBus).kind == .fixedLow

/-- What one bus cycle puts on the data bus: the byte and how many writers drove it. -/
structure DataLine where
  byte : Byte
  writers : Nat
deriving DecidableEq, Repr

/-- One memory device in one bus cycle at `addr`, reading (`rd` true) or writing: R82 at the cycle level. -/
def MemDevice.cycle (bs : Buses) (addr : Word) (rd : Bool) (d : MemDevice) (l : DataLine) : MemDevice × DataLine :=
  if d.enabled bs then
    if !rd && d.rwBus.isSome then (d.writeAt addr.toNat l.byte, l)
    else (d, { byte := d.readAt addr.toNat, writers := l.writers + 1 })
  else (d, l)

/-- The memory devices of the system and the data line, after the device `id` has been evaluated in a bus cycle. -/
def memCycle (bs : Buses) (addr : Word) (rd : Bool) (id : DeviceId) (ms : List MemDevice) (l : DataLine) :
    List MemDevice × DataLine :=
  match id with
  | .cpu => (ms, l)
  | .mem k =>
    match ms[k]? with
    | none => (ms, l)
    | some d => (ms.set k (d.cycle bs addr rd l).1, (d.cycle bs addr rd l).2)

/-- All memory devices in one bus cycle, in the order `EVAL_ORDER` gives (R70): where two are enabled the later one's byte
stands (R61, R83). -/
def memsCycle (bs : Buses) (addr : Word) (rd : Bool) :
    List DeviceId → List MemDevice → DataLine → List MemDevice × DataLine
  | [], ms, l => (ms, l)
  | id :: order, ms, l =>
    memsCycle bs addr rd order (memCycle bs addr rd id ms l).1 (memCycle bs addr rd id ms l).2

/-- The data bus before any device drives it: nothing in a read cycle, the CPU's byte in a write cycle (R154). -/
def DataLine.start (rd : Bool) (v : Byte) : DataLine :=
  if rd then { byte := 0#8, writers := 0 } else { byte := v, writers := 1 }

/-- `MemRead(addr, 1)` (00_scope.md R12): the byte a read bus cycle at `addr` returns; 0x00 where no device is enabled (R103). -/
def State.peek (s : State) (addr : Word) : Byte :=
  (memsCycle s.buses addr true s.cfg.evalOrder s.mems (.start true 0#8)).2.byte

/-- The memory devices after `MemWrite(addr, 1, v)` (R12): after a write bus cycle of `v` at `addr`. -/
def State.poke (s : State) (addr : Word) (v : Byte) : State :=
  { s with mems := (memsCycle s.buses addr false s.cfg.evalOrder s.mems (.start false v)).1 }

/-- `MemRead16(a)` (R12): low byte first, the second address modulo 2^16. -/
def State.peek16 (s : State) (addr : Word) : Word :=
  word (s.peek (addr + 1)) (s.peek addr)

/-! ### Ticks seen from the CPU's latches (40_sequencer.md R150 E1 to E4) -/

/-- A tick in which the outside world asserts nothing: the platform's provider writes 1 to the bus of the `RES` port (R90,
R423). -/
def idleInput (p : Ports) : TickInput :=
  { writes := [(p.res, 1)], holdClock := false }

/-- T1 to T3 of one tick (R70): reset every bus, advance the clocks, let the providers write. -/
def State.startTick (s : State) : State :=
  let inp := s.inputs.headD (idleInput s.cfg.ports)
  { s with buses := ((s.buses.reset).advance inp.holdClock).drive inp.writes, inputs := s.inputs.tail }

/-- E3 and E4: the NMI edge, the trackers, the reset latch, the IRQ level (60_exceptions.md R361 to R363). -/
def Cpu.latch (clk nmi irq res : Bool) (c : Cpu) : Cpu :=
  { c with
    nmiPend := c.nmiPend || (c.lastNmi && !nmi)
    lastClk := clk
    lastNmi := nmi
    resPend := c.resPend || !res
    irqPend := !irq && !c.flag .i }

/-- `read()` of the bus of a handle as a level. -/
def State.level (s : State) (id : BusId) : Bool :=
  (s.buses.get id).level

/-- E1, E3 and E4 on the CPU's input ports as they read in this tick. -/
def State.latchLines (s : State) : State :=
  let p := s.cfg.ports
  s.withCpu (s.cpu.latch (s.level p.clk) (s.level p.nmi) (s.level p.irq) (s.level p.res))

/-- `n` ticks of T1 to T3 and E1 to E4. -/
def State.lineTicks : Nat → State → State
  | 0, s => s
  | n + 1, s => State.lineTicks n s.startTick.latchLines

/-! ### One clock cycle -/

/-- E5, on a falling edge: publish (R152). -/
def Cpu.publish (c : Cpu) : Cpu :=
  { c with oaddr := c.paddr, odata := c.pdata, orw := c.prw, osync := c.psync }

/-- A standard bus after ticks in each of which one device wrote `v` once. -/
def Bus.held (v : Nat) (b : Bus) : Bus :=
  let v' := v &&& b.mask
  { b with value := v', count := 1, last := v' }

/-- The data bus after ticks that all left this line on it. -/
def Bus.heldLine (l : DataLine) (b : Bus) : Bus :=
  { b with value := l.byte.toNat, count := l.writers, last := l.byte.toNat }

/-- The buses of the CPU's output ports after a clock cycle in which the CPU drove its output registers in every tick and the
data line was `l`. -/
def Buses.holdOutputs (p : Ports) (c : Cpu) (l : DataLine) (bs : Buses) : Buses :=
  (((bs.modify p.addr (Bus.held c.oaddr.toNat)).modify p.rw (Bus.held c.orw.toNat)).modify p.sync
    (Bus.held c.osync.toNat)).modify p.data (Bus.heldLine l)

/-- One clock cycle (R160), from just after one rising edge to the next rising edge's micro-step: `2 * CLK_DIV` ticks
(R434) of the lines, the publication of the staged values (R152), the one bus transaction they name (R91, R92), and the
sample of the data bus (R153). The micro-step itself is not part of it. -/
def State.clockCycle (s : State) : State :=
  let s1 := State.lineTicks (2 * s.cfg.clkDiv) s
  let c := s1.cpu.publish
  let x := memsCycle s1.buses c.oaddr c.orw s1.cfg.evalOrder s1.mems (.start c.orw c.odata)
  { s1 with
    cpu := { c with dbuf := x.2.byte }
    buses := s1.buses.holdOutputs s1.cfg.ports c x.2
    mems := x.1 }

/-- A clock cycle that fetches an operand byte of the instruction: the data buffer receives the instruction's own byte,
which is what memory holds there when `step` runs the instruction it decoded. -/
def State.operandCycle (b : Option Byte) (s : State) : State :=
  let s1 := s.clockCycle
  match b with
  | none => s1
  | some v => s1.withCpu { s1.cpu with dbuf := v }

/-! ### Running a sequence -/

/-- Run the micro-steps of a sequence, the first of them numbered `k`, until one retires (R153, R160): between two
micro-steps lies one clock cycle. `ops` gives, cycle by cycle, the operand byte that the cycle fetches, if any. -/
def runFrom (k : Nat) : List Micro → List (Option Byte) → State → Host.Outcome State Fault Refusal
  | [], _, s => .next s
  | u :: us, ops, s =>
    match u s.cpu with
    | .refuse r => .refused r
    | .retired c => .next (s.withCpu { c with cyc := 0 })
    | .more c => runFrom (k + 1) us ops.tail ((s.withCpu { c with cyc := k + 1 }).operandCycle (ops.headD none))

/-- An instruction or pseudo-instruction as one step (R179): from its dispatch in the tick of cycle 0 (the state in which
its micro-step 0 runs) to its retire. -/
def run (seq : List Micro) (ops : List (Option Byte)) (s : State) : Host.Outcome State Fault Refusal :=
  runFrom 0 seq ops s

/-- One bus transaction (R160): what the address, data, direction and sync lines carry in one clock cycle; `data` is the byte
sampled in a read and the byte the CPU drives in a write. -/
structure Transaction where
  addr : Word
  data : Byte
  write : Bool
  sync : Bool
deriving DecidableEq, Repr

/-- A read transaction that is not an opcode fetch. -/
def busRead (addr : Word) (data : Byte) : Transaction :=
  { addr := addr, data := data, write := false, sync := false }

/-- A write transaction. -/
def busWrite (addr : Word) (data : Byte) : Transaction :=
  { addr := addr, data := data, write := true, sync := false }

/-- The bus transactions of the clock cycles between the micro-steps that `runFrom` runs, in order (R13, R160). -/
def busFrom (k : Nat) : List Micro → List (Option Byte) → State → List Transaction
  | [], _, _ => []
  | u :: us, ops, s =>
    match u s.cpu with
    | .refuse _ => []
    | .retired _ => []
    | .more c =>
      let t := (s.withCpu { c with cyc := k + 1 }).operandCycle (ops.headD none)
      { addr := c.paddr, data := if c.prw then t.cpu.dbuf else c.pdata, write := !c.prw, sync := c.psync } ::
        busFrom (k + 1) us ops.tail t

/-- Copy bytes into every memory device at ascending CPU addresses: the image loader (R96). -/
def State.loadBytes (addr : Word) (bytes : List Byte) (s : State) : State :=
  match bytes with
  | [] => s
  | b :: rest => State.loadBytes (addr + 1) rest { s with mems := s.mems.map (MemDevice.load addr.toNat [b]) }

end Sys2Proof.Machine
end

