-- ==== Sys2Proof/Machine/Operands.lean ====
section
/-! DEFINITION. The operand forms (30_encoding.md R121, R122): address formation micro-step by micro-step (40_sequencer.md
R163 to R168), and its closed form at the instruction level (R170). -/

namespace Sys2Proof.Machine

/-- The eight addressing modes that have an effective address (R121). -/
inductive AddrMode where
  | zp | zpx | zpy | abs | abx | aby | inx | iny
deriving DecidableEq, Repr

/-- `(DBUF + idx) mod 256` into `TMP`, then an idle cycle: micro-step 1 of R164 and R167. -/
def formIndexZp (idx : Cpu → Byte) : Micro := fun c =>
  .more { c.incPc with tmp := c.dbuf + idx c }.idle

/-- Micro-step 1 of R165, R166 (and of JMP, R279, R280): the low byte is kept, the high byte is fetched. -/
def formLow : Micro := fun c =>
  .more ({ c.incPc with tmp := c.dbuf }.fetch (c.pc + 1))

/-- Fetch the second pointer byte, inside the zero page: micro-step 3 of R167, 2 of R168. -/
def formPointerHigh : Micro := fun c =>
  .more ({ c with tl := c.dbuf }.fetch (zext16 (c.tmp + 1)))

/-- Micro-steps 1 to `a` of address formation; step `a` knows the effective address and stages what `stage` says with it
(R163 to R168). -/
def formation (m : AddrMode) (stage : Word → Cpu → Cpu) : List Micro :=
  match m with
  | .zp => [fun c => .more (stage (zext16 c.dbuf) c.incPc)]
  | .zpx => [formIndexZp Cpu.x, fun c => .more (stage (zext16 c.tmp) c)]
  | .zpy => [formIndexZp Cpu.y, fun c => .more (stage (zext16 c.tmp) c)]
  | .abs => [formLow, fun c => .more (stage (word c.dbuf c.tmp) c.incPc)]
  | .abx => [formLow, fun c => .more (stage (word c.dbuf c.tmp + zext16 c.x) c.incPc)]
  | .aby => [formLow, fun c => .more (stage (word c.dbuf c.tmp + zext16 c.y) c.incPc)]
  | .inx =>
    [ formIndexZp Cpu.x,
      fun c => .more (c.fetch (zext16 c.tmp)),
      formPointerHigh,
      fun c => .more (stage (word c.dbuf c.tl) c) ]
  | .iny =>
    [ fun c => .more ({ c.incPc with tmp := c.dbuf }.fetch (zext16 c.dbuf)),
      formPointerHigh,
      fun c => .more (stage (word c.dbuf c.tl + zext16 c.y) c) ]

/-! ### Closed form (R170, R206) -/

/-- An operand with its bytes: the immediate byte, or one of the eight modes. -/
inductive Operand where
  | imm (b1 : Byte)
  | zp (b1 : Byte)
  | zpx (b1 : Byte)
  | zpy (b1 : Byte)
  | abs (b1 b2 : Byte)
  | abx (b1 b2 : Byte)
  | aby (b1 b2 : Byte)
  | inx (b1 : Byte)
  | iny (b1 : Byte)
deriving DecidableEq, Repr

/-- The pointer whose low byte lies at zero-page address `b`; the high byte wraps inside the zero page (R167, R168). -/
def State.zpPointer (s : State) (b : Byte) : Word :=
  word (s.peek (zext16 (b + 1))) (s.peek (zext16 b))

/-- The effective address of R170; `none` for an immediate operand, which has none (R169). -/
def Operand.address (s : State) : Operand → Option Word
  | .imm _ => none
  | .zp b1 => some (zext16 b1)
  | .zpx b1 => some (zext16 (b1 + s.cpu.x))
  | .zpy b1 => some (zext16 (b1 + s.cpu.y))
  | .abs b1 b2 => some (word b2 b1)
  | .abx b1 b2 => some (word b2 b1 + zext16 s.cpu.x)
  | .aby b1 b2 => some (word b2 b1 + zext16 s.cpu.y)
  | .inx b1 => some (s.zpPointer (b1 + s.cpu.x))
  | .iny b1 => some (s.zpPointer b1 + zext16 s.cpu.y)

/-- The operand byte `M` (41_load_store.md): "`b1` in immediate mode, else `MemRead(EA, 1)`". -/
def Operand.value (s : State) (o : Operand) : Byte :=
  match o, o.address s with
  | .imm b1, _ => b1
  | _, some ea => s.peek ea
  | _, none => 0#8

/-- The length in bytes of an instruction with this operand (R121). -/
def Operand.length : Operand → Word
  | .imm _ => 2
  | .zp _ => 2
  | .zpx _ => 2
  | .zpy _ => 2
  | .abs _ _ => 3
  | .abx _ _ => 3
  | .aby _ _ => 3
  | .inx _ => 2
  | .iny _ => 2

end Sys2Proof.Machine
end

