-- ==== Sys2Proof/Machine/Sequencer.lean ====
section
/-! DEFINITION. The micro-step sequences of the instruction classes that many instructions share (40_sequencer.md R171 to
R174; 44_control.md R270; 45_stack_flag_transfer.md R300, R302). -/

namespace Sys2Proof.Machine

/-- `op(M)` of a class R instruction on the operand byte; it may have no meaning (R224). -/
abbrev ReadOp := Byte → Cpu → Except Refusal Cpu

/-- Apply a class R operation to `DBUF` and retire. -/
def readEnd (op : ReadOp) (c : Cpu) : MicroEnd :=
  match op c.dbuf c with
  | .ok c' => .retired c'.retire
  | .error r => .refuse r

/-- Class R with an effective address (R171). -/
def seqRead (m : AddrMode) (op : ReadOp) : List Micro :=
  microZero :: formation m Cpu.fetch ++ [readEnd op]

/-- Class R, immediate (R169): "`PC <- PC + 1`, the operation is applied to `DBUF`, `retire`". -/
def seqReadImm (op : ReadOp) : List Micro :=
  [microZero, fun c => readEnd op c.incPc]

/-- Class W (R172): step `a` stages the store of the register, read at that step. -/
def seqWrite (m : AddrMode) (r : Cpu → Byte) : List Micro :=
  microZero :: formation m (fun ea c => c.store ea (r c)) ++ [microRetire]

/-- `f(v)` of a class M instruction: the new value, and the CPU with the flags written. -/
abbrev ModifyOp := Byte → Cpu → Byte × Cpu

/-- Class M on memory (R173): read, an idle cycle, one write of the new value at `PADDR`. -/
def seqModify (m : AddrMode) (f : ModifyOp) : List Micro :=
  microZero :: formation m Cpu.fetch ++
    [ fun c => .more { c with tmp := c.dbuf }.idle,
      fun c => .more ((f c.tmp c).2.store c.paddr (f c.tmp c).1),
      microRetire ]

/-- Class M in accumulator mode (R173): `A <- f(A)`. -/
def seqAccumulator (f : ModifyOp) : List Micro :=
  [microZero, fun c => .retired { (f c.a c).2 with a := (f c.a c).1 }.retire]

/-- Class I2 (R174): the instruction's register or flag action, then `retire`. -/
def seqImplied (act : Cpu → Cpu) : List Micro :=
  [microZero, fun c => .retired (act c).retire]

/-- Class BR (R270): the flag is read in micro-step 1; a branch not taken retires there. -/
def seqBranch (cond : Cpu → Bool) : List Micro :=
  [ microZero,
    fun c => if cond c then .more { c.incPc with tmp := c.dbuf }.idle else .retired c.incPc.retire,
    fun c => .retired { c with pc := c.pc + sext16 c.tmp }.retire ]

/-- Class PUSH (R300, R301). -/
def seqPush (cfg : Config) (v : Cpu → Byte) : List Micro :=
  [microZero, fun c => .more (c.push cfg (v c)), microRetire]

/-- Class PULL (R302, R303): the pulled byte is in `DBUF` in micro-step 3. -/
def seqPull (cfg : Config) (take : Byte → Cpu → Cpu) : List Micro :=
  [ microZero,
    fun c => .more c.idle,
    fun c => .more (c.pull cfg),
    fun c => .retired (take c.dbuf c).retire ]

end Sys2Proof.Machine
end

