-- ==== Sys2Proof/Machine/ArithLogic.lean ====
section
/-! DEFINITION. Arithmetic, logic and compare instructions (42_arith_logic.md R220 to R232). -/

namespace Sys2Proof.Machine

/-- ADC: refused while `P.D = 1` (R224); else the sum, the carry, the overflow and `setNZ` of `add8(A, M, P.C)` (R221). -/
def opAdc : ReadOp := fun m c =>
  if c.flag .d then .error .decimalMode
  else
    let t := add8 c.a m (c.flag .c)
    .ok ({ c with a := t.r }.setAdd t)

/-- SBC: refused while `P.D = 1` (R224); else as ADC on `M ^ 0xFF` (R222). -/
def opSbc : ReadOp := fun m c =>
  if c.flag .d then .error .decimalMode
  else
    let t := sub8 c.a m (c.flag .c)
    .ok ({ c with a := t.r }.setAdd t)

/-- AND: `A <- A & M; setNZ(A)` (R225). -/
def opAnd : ReadOp := fun m c =>
  .ok ({ c with a := c.a &&& m }.setNZ (c.a &&& m))

/-- ORA: `A <- A | M; setNZ(A)` (R226). -/
def opOra : ReadOp := fun m c =>
  .ok ({ c with a := c.a ||| m }.setNZ (c.a ||| m))

/-- EOR: `A <- A ^ M; setNZ(A)` (R227). -/
def opEor : ReadOp := fun m c =>
  .ok ({ c with a := c.a ^^^ m }.setNZ (c.a ^^^ m))

/-- CMP: the flags of `A - M` (R228). -/
def opCmp : ReadOp := fun m c =>
  .ok (c.setCompare c.a m)

/-- CPX: the flags of `X - M` (R229). -/
def opCpx : ReadOp := fun m c =>
  .ok (c.setCompare c.x m)

/-- CPY: the flags of `Y - M` (R230). -/
def opCpy : ReadOp := fun m c =>
  .ok (c.setCompare c.y m)

/-- BIT (R231). -/
def opBit : ReadOp := fun m c =>
  .ok (c.setBit c.a m)

/-- The micro-steps of ADC (b1,X), opcode 0x61 (R221). -/
def seqAdcInx : List Micro :=
  seqRead .inx opAdc

/-- ADC (b1,X), opcode 0x61 (R221). -/
def execAdcInx (b1 : Byte) (s : State) : Host.Outcome State Fault Refusal :=
  run seqAdcInx [some b1] s

/-- The micro-steps of ADC b1, opcode 0x65 (R221). -/
def seqAdcZp : List Micro :=
  seqRead .zp opAdc

/-- ADC b1, opcode 0x65 (R221). -/
def execAdcZp (b1 : Byte) (s : State) : Host.Outcome State Fault Refusal :=
  run seqAdcZp [some b1] s

/-- The micro-steps of ADC #b1, opcode 0x69 (R221). -/
def seqAdcImm : List Micro :=
  seqReadImm opAdc

/-- ADC #b1, opcode 0x69 (R221). -/
def execAdcImm (b1 : Byte) (s : State) : Host.Outcome State Fault Refusal :=
  run seqAdcImm [some b1] s

/-- The micro-steps of ADC b2:b1, opcode 0x6D (R221). -/
def seqAdcAbs : List Micro :=
  seqRead .abs opAdc

/-- ADC b2:b1, opcode 0x6D (R221). -/
def execAdcAbs (b1 b2 : Byte) (s : State) : Host.Outcome State Fault Refusal :=
  run seqAdcAbs [some b1, some b2] s

/-- The micro-steps of ADC (b1),Y, opcode 0x71 (R221). -/
def seqAdcIny : List Micro :=
  seqRead .iny opAdc

/-- ADC (b1),Y, opcode 0x71 (R221). -/
def execAdcIny (b1 : Byte) (s : State) : Host.Outcome State Fault Refusal :=
  run seqAdcIny [some b1] s

/-- The micro-steps of ADC b1,X, opcode 0x75 (R221). -/
def seqAdcZpx : List Micro :=
  seqRead .zpx opAdc

/-- ADC b1,X, opcode 0x75 (R221). -/
def execAdcZpx (b1 : Byte) (s : State) : Host.Outcome State Fault Refusal :=
  run seqAdcZpx [some b1] s

/-- The micro-steps of ADC b2:b1,Y, opcode 0x79 (R221). -/
def seqAdcAby : List Micro :=
  seqRead .aby opAdc

/-- ADC b2:b1,Y, opcode 0x79 (R221). -/
def execAdcAby (b1 b2 : Byte) (s : State) : Host.Outcome State Fault Refusal :=
  run seqAdcAby [some b1, some b2] s

/-- The micro-steps of ADC b2:b1,X, opcode 0x7D (R221). -/
def seqAdcAbx : List Micro :=
  seqRead .abx opAdc

/-- ADC b2:b1,X, opcode 0x7D (R221). -/
def execAdcAbx (b1 b2 : Byte) (s : State) : Host.Outcome State Fault Refusal :=
  run seqAdcAbx [some b1, some b2] s

/-- The micro-steps of SBC (b1,X), opcode 0xE1 (R222). -/
def seqSbcInx : List Micro :=
  seqRead .inx opSbc

/-- SBC (b1,X), opcode 0xE1 (R222). -/
def execSbcInx (b1 : Byte) (s : State) : Host.Outcome State Fault Refusal :=
  run seqSbcInx [some b1] s

/-- The micro-steps of SBC b1, opcode 0xE5 (R222). -/
def seqSbcZp : List Micro :=
  seqRead .zp opSbc

/-- SBC b1, opcode 0xE5 (R222). -/
def execSbcZp (b1 : Byte) (s : State) : Host.Outcome State Fault Refusal :=
  run seqSbcZp [some b1] s

/-- The micro-steps of SBC #b1, opcode 0xE9 (R222). -/
def seqSbcImm : List Micro :=
  seqReadImm opSbc

/-- SBC #b1, opcode 0xE9 (R222). -/
def execSbcImm (b1 : Byte) (s : State) : Host.Outcome State Fault Refusal :=
  run seqSbcImm [some b1] s

/-- The micro-steps of SBC b2:b1, opcode 0xED (R222). -/
def seqSbcAbs : List Micro :=
  seqRead .abs opSbc

/-- SBC b2:b1, opcode 0xED (R222). -/
def execSbcAbs (b1 b2 : Byte) (s : State) : Host.Outcome State Fault Refusal :=
  run seqSbcAbs [some b1, some b2] s

/-- The micro-steps of SBC (b1),Y, opcode 0xF1 (R222). -/
def seqSbcIny : List Micro :=
  seqRead .iny opSbc

/-- SBC (b1),Y, opcode 0xF1 (R222). -/
def execSbcIny (b1 : Byte) (s : State) : Host.Outcome State Fault Refusal :=
  run seqSbcIny [some b1] s

/-- The micro-steps of SBC b1,X, opcode 0xF5 (R222). -/
def seqSbcZpx : List Micro :=
  seqRead .zpx opSbc

/-- SBC b1,X, opcode 0xF5 (R222). -/
def execSbcZpx (b1 : Byte) (s : State) : Host.Outcome State Fault Refusal :=
  run seqSbcZpx [some b1] s

/-- The micro-steps of SBC b2:b1,Y, opcode 0xF9 (R222). -/
def seqSbcAby : List Micro :=
  seqRead .aby opSbc

/-- SBC b2:b1,Y, opcode 0xF9 (R222). -/
def execSbcAby (b1 b2 : Byte) (s : State) : Host.Outcome State Fault Refusal :=
  run seqSbcAby [some b1, some b2] s

/-- The micro-steps of SBC b2:b1,X, opcode 0xFD (R222). -/
def seqSbcAbx : List Micro :=
  seqRead .abx opSbc

/-- SBC b2:b1,X, opcode 0xFD (R222). -/
def execSbcAbx (b1 b2 : Byte) (s : State) : Host.Outcome State Fault Refusal :=
  run seqSbcAbx [some b1, some b2] s

/-- The micro-steps of AND (b1,X), opcode 0x21 (R225). -/
def seqAndInx : List Micro :=
  seqRead .inx opAnd

/-- AND (b1,X), opcode 0x21 (R225). -/
def execAndInx (b1 : Byte) (s : State) : Host.Outcome State Fault Refusal :=
  run seqAndInx [some b1] s

/-- The micro-steps of AND b1, opcode 0x25 (R225). -/
def seqAndZp : List Micro :=
  seqRead .zp opAnd

/-- AND b1, opcode 0x25 (R225). -/
def execAndZp (b1 : Byte) (s : State) : Host.Outcome State Fault Refusal :=
  run seqAndZp [some b1] s

/-- The micro-steps of AND #b1, opcode 0x29 (R225). -/
def seqAndImm : List Micro :=
  seqReadImm opAnd

/-- AND #b1, opcode 0x29 (R225). -/
def execAndImm (b1 : Byte) (s : State) : Host.Outcome State Fault Refusal :=
  run seqAndImm [some b1] s

/-- The micro-steps of AND b2:b1, opcode 0x2D (R225). -/
def seqAndAbs : List Micro :=
  seqRead .abs opAnd

/-- AND b2:b1, opcode 0x2D (R225). -/
def execAndAbs (b1 b2 : Byte) (s : State) : Host.Outcome State Fault Refusal :=
  run seqAndAbs [some b1, some b2] s

/-- The micro-steps of AND (b1),Y, opcode 0x31 (R225). -/
def seqAndIny : List Micro :=
  seqRead .iny opAnd

/-- AND (b1),Y, opcode 0x31 (R225). -/
def execAndIny (b1 : Byte) (s : State) : Host.Outcome State Fault Refusal :=
  run seqAndIny [some b1] s

/-- The micro-steps of AND b1,X, opcode 0x35 (R225). -/
def seqAndZpx : List Micro :=
  seqRead .zpx opAnd

/-- AND b1,X, opcode 0x35 (R225). -/
def execAndZpx (b1 : Byte) (s : State) : Host.Outcome State Fault Refusal :=
  run seqAndZpx [some b1] s

/-- The micro-steps of AND b2:b1,Y, opcode 0x39 (R225). -/
def seqAndAby : List Micro :=
  seqRead .aby opAnd

/-- AND b2:b1,Y, opcode 0x39 (R225). -/
def execAndAby (b1 b2 : Byte) (s : State) : Host.Outcome State Fault Refusal :=
  run seqAndAby [some b1, some b2] s

/-- The micro-steps of AND b2:b1,X, opcode 0x3D (R225). -/
def seqAndAbx : List Micro :=
  seqRead .abx opAnd

/-- AND b2:b1,X, opcode 0x3D (R225). -/
def execAndAbx (b1 b2 : Byte) (s : State) : Host.Outcome State Fault Refusal :=
  run seqAndAbx [some b1, some b2] s

/-- The micro-steps of ORA (b1,X), opcode 0x01 (R226). -/
def seqOraInx : List Micro :=
  seqRead .inx opOra

/-- ORA (b1,X), opcode 0x01 (R226). -/
def execOraInx (b1 : Byte) (s : State) : Host.Outcome State Fault Refusal :=
  run seqOraInx [some b1] s

/-- The micro-steps of ORA b1, opcode 0x05 (R226). -/
def seqOraZp : List Micro :=
  seqRead .zp opOra

/-- ORA b1, opcode 0x05 (R226). -/
def execOraZp (b1 : Byte) (s : State) : Host.Outcome State Fault Refusal :=
  run seqOraZp [some b1] s

/-- The micro-steps of ORA #b1, opcode 0x09 (R226). -/
def seqOraImm : List Micro :=
  seqReadImm opOra

/-- ORA #b1, opcode 0x09 (R226). -/
def execOraImm (b1 : Byte) (s : State) : Host.Outcome State Fault Refusal :=
  run seqOraImm [some b1] s

/-- The micro-steps of ORA b2:b1, opcode 0x0D (R226). -/
def seqOraAbs : List Micro :=
  seqRead .abs opOra

/-- ORA b2:b1, opcode 0x0D (R226). -/
def execOraAbs (b1 b2 : Byte) (s : State) : Host.Outcome State Fault Refusal :=
  run seqOraAbs [some b1, some b2] s

/-- The micro-steps of ORA (b1),Y, opcode 0x11 (R226). -/
def seqOraIny : List Micro :=
  seqRead .iny opOra

/-- ORA (b1),Y, opcode 0x11 (R226). -/
def execOraIny (b1 : Byte) (s : State) : Host.Outcome State Fault Refusal :=
  run seqOraIny [some b1] s

/-- The micro-steps of ORA b1,X, opcode 0x15 (R226). -/
def seqOraZpx : List Micro :=
  seqRead .zpx opOra

/-- ORA b1,X, opcode 0x15 (R226). -/
def execOraZpx (b1 : Byte) (s : State) : Host.Outcome State Fault Refusal :=
  run seqOraZpx [some b1] s

/-- The micro-steps of ORA b2:b1,Y, opcode 0x19 (R226). -/
def seqOraAby : List Micro :=
  seqRead .aby opOra

/-- ORA b2:b1,Y, opcode 0x19 (R226). -/
def execOraAby (b1 b2 : Byte) (s : State) : Host.Outcome State Fault Refusal :=
  run seqOraAby [some b1, some b2] s

/-- The micro-steps of ORA b2:b1,X, opcode 0x1D (R226). -/
def seqOraAbx : List Micro :=
  seqRead .abx opOra

/-- ORA b2:b1,X, opcode 0x1D (R226). -/
def execOraAbx (b1 b2 : Byte) (s : State) : Host.Outcome State Fault Refusal :=
  run seqOraAbx [some b1, some b2] s

/-- The micro-steps of EOR (b1,X), opcode 0x41 (R227). -/
def seqEorInx : List Micro :=
  seqRead .inx opEor

/-- EOR (b1,X), opcode 0x41 (R227). -/
def execEorInx (b1 : Byte) (s : State) : Host.Outcome State Fault Refusal :=
  run seqEorInx [some b1] s

/-- The micro-steps of EOR b1, opcode 0x45 (R227). -/
def seqEorZp : List Micro :=
  seqRead .zp opEor

/-- EOR b1, opcode 0x45 (R227). -/
def execEorZp (b1 : Byte) (s : State) : Host.Outcome State Fault Refusal :=
  run seqEorZp [some b1] s

/-- The micro-steps of EOR #b1, opcode 0x49 (R227). -/
def seqEorImm : List Micro :=
  seqReadImm opEor

/-- EOR #b1, opcode 0x49 (R227). -/
def execEorImm (b1 : Byte) (s : State) : Host.Outcome State Fault Refusal :=
  run seqEorImm [some b1] s

/-- The micro-steps of EOR b2:b1, opcode 0x4D (R227). -/
def seqEorAbs : List Micro :=
  seqRead .abs opEor

/-- EOR b2:b1, opcode 0x4D (R227). -/
def execEorAbs (b1 b2 : Byte) (s : State) : Host.Outcome State Fault Refusal :=
  run seqEorAbs [some b1, some b2] s

/-- The micro-steps of EOR (b1),Y, opcode 0x51 (R227). -/
def seqEorIny : List Micro :=
  seqRead .iny opEor

/-- EOR (b1),Y, opcode 0x51 (R227). -/
def execEorIny (b1 : Byte) (s : State) : Host.Outcome State Fault Refusal :=
  run seqEorIny [some b1] s

/-- The micro-steps of EOR b1,X, opcode 0x55 (R227). -/
def seqEorZpx : List Micro :=
  seqRead .zpx opEor

/-- EOR b1,X, opcode 0x55 (R227). -/
def execEorZpx (b1 : Byte) (s : State) : Host.Outcome State Fault Refusal :=
  run seqEorZpx [some b1] s

/-- The micro-steps of EOR b2:b1,Y, opcode 0x59 (R227). -/
def seqEorAby : List Micro :=
  seqRead .aby opEor

/-- EOR b2:b1,Y, opcode 0x59 (R227). -/
def execEorAby (b1 b2 : Byte) (s : State) : Host.Outcome State Fault Refusal :=
  run seqEorAby [some b1, some b2] s

/-- The micro-steps of EOR b2:b1,X, opcode 0x5D (R227). -/
def seqEorAbx : List Micro :=
  seqRead .abx opEor

/-- EOR b2:b1,X, opcode 0x5D (R227). -/
def execEorAbx (b1 b2 : Byte) (s : State) : Host.Outcome State Fault Refusal :=
  run seqEorAbx [some b1, some b2] s

/-- The micro-steps of CMP (b1,X), opcode 0xC1 (R228). -/
def seqCmpInx : List Micro :=
  seqRead .inx opCmp

/-- CMP (b1,X), opcode 0xC1 (R228). -/
def execCmpInx (b1 : Byte) (s : State) : Host.Outcome State Fault Refusal :=
  run seqCmpInx [some b1] s

/-- The micro-steps of CMP b1, opcode 0xC5 (R228). -/
def seqCmpZp : List Micro :=
  seqRead .zp opCmp

/-- CMP b1, opcode 0xC5 (R228). -/
def execCmpZp (b1 : Byte) (s : State) : Host.Outcome State Fault Refusal :=
  run seqCmpZp [some b1] s

/-- The micro-steps of CMP #b1, opcode 0xC9 (R228). -/
def seqCmpImm : List Micro :=
  seqReadImm opCmp

/-- CMP #b1, opcode 0xC9 (R228). -/
def execCmpImm (b1 : Byte) (s : State) : Host.Outcome State Fault Refusal :=
  run seqCmpImm [some b1] s

/-- The micro-steps of CMP b2:b1, opcode 0xCD (R228). -/
def seqCmpAbs : List Micro :=
  seqRead .abs opCmp

/-- CMP b2:b1, opcode 0xCD (R228). -/
def execCmpAbs (b1 b2 : Byte) (s : State) : Host.Outcome State Fault Refusal :=
  run seqCmpAbs [some b1, some b2] s

/-- The micro-steps of CMP (b1),Y, opcode 0xD1 (R228). -/
def seqCmpIny : List Micro :=
  seqRead .iny opCmp

/-- CMP (b1),Y, opcode 0xD1 (R228). -/
def execCmpIny (b1 : Byte) (s : State) : Host.Outcome State Fault Refusal :=
  run seqCmpIny [some b1] s

/-- The micro-steps of CMP b1,X, opcode 0xD5 (R228). -/
def seqCmpZpx : List Micro :=
  seqRead .zpx opCmp

/-- CMP b1,X, opcode 0xD5 (R228). -/
def execCmpZpx (b1 : Byte) (s : State) : Host.Outcome State Fault Refusal :=
  run seqCmpZpx [some b1] s

/-- The micro-steps of CMP b2:b1,Y, opcode 0xD9 (R228). -/
def seqCmpAby : List Micro :=
  seqRead .aby opCmp

/-- CMP b2:b1,Y, opcode 0xD9 (R228). -/
def execCmpAby (b1 b2 : Byte) (s : State) : Host.Outcome State Fault Refusal :=
  run seqCmpAby [some b1, some b2] s

/-- The micro-steps of CMP b2:b1,X, opcode 0xDD (R228). -/
def seqCmpAbx : List Micro :=
  seqRead .abx opCmp

/-- CMP b2:b1,X, opcode 0xDD (R228). -/
def execCmpAbx (b1 b2 : Byte) (s : State) : Host.Outcome State Fault Refusal :=
  run seqCmpAbx [some b1, some b2] s

/-- The micro-steps of CPX #b1, opcode 0xE0 (R229). -/
def seqCpxImm : List Micro :=
  seqReadImm opCpx

/-- CPX #b1, opcode 0xE0 (R229). -/
def execCpxImm (b1 : Byte) (s : State) : Host.Outcome State Fault Refusal :=
  run seqCpxImm [some b1] s

/-- The micro-steps of CPX b1, opcode 0xE4 (R229). -/
def seqCpxZp : List Micro :=
  seqRead .zp opCpx

/-- CPX b1, opcode 0xE4 (R229). -/
def execCpxZp (b1 : Byte) (s : State) : Host.Outcome State Fault Refusal :=
  run seqCpxZp [some b1] s

/-- The micro-steps of CPX b2:b1, opcode 0xEC (R229). -/
def seqCpxAbs : List Micro :=
  seqRead .abs opCpx

/-- CPX b2:b1, opcode 0xEC (R229). -/
def execCpxAbs (b1 b2 : Byte) (s : State) : Host.Outcome State Fault Refusal :=
  run seqCpxAbs [some b1, some b2] s

/-- The micro-steps of CPY #b1, opcode 0xC0 (R230). -/
def seqCpyImm : List Micro :=
  seqReadImm opCpy

/-- CPY #b1, opcode 0xC0 (R230). -/
def execCpyImm (b1 : Byte) (s : State) : Host.Outcome State Fault Refusal :=
  run seqCpyImm [some b1] s

/-- The micro-steps of CPY b1, opcode 0xC4 (R230). -/
def seqCpyZp : List Micro :=
  seqRead .zp opCpy

/-- CPY b1, opcode 0xC4 (R230). -/
def execCpyZp (b1 : Byte) (s : State) : Host.Outcome State Fault Refusal :=
  run seqCpyZp [some b1] s

/-- The micro-steps of CPY b2:b1, opcode 0xCC (R230). -/
def seqCpyAbs : List Micro :=
  seqRead .abs opCpy

/-- CPY b2:b1, opcode 0xCC (R230). -/
def execCpyAbs (b1 b2 : Byte) (s : State) : Host.Outcome State Fault Refusal :=
  run seqCpyAbs [some b1, some b2] s

/-- The micro-steps of BIT b1, opcode 0x24 (R231). -/
def seqBitZp : List Micro :=
  seqRead .zp opBit

/-- BIT b1, opcode 0x24 (R231). -/
def execBitZp (b1 : Byte) (s : State) : Host.Outcome State Fault Refusal :=
  run seqBitZp [some b1] s

/-- The micro-steps of BIT b2:b1, opcode 0x2C (R231). -/
def seqBitAbs : List Micro :=
  seqRead .abs opBit

/-- BIT b2:b1, opcode 0x2C (R231). -/
def execBitAbs (b1 b2 : Byte) (s : State) : Host.Outcome State Fault Refusal :=
  run seqBitAbs [some b1, some b2] s

end Sys2Proof.Machine
end

