-- ==== Sys2Proof/Machine/Control.lean ====
section
/-! DEFINITION. Branches, jumps, subroutine call and return (44_control.md R270 to R282). -/

namespace Sys2Proof.Machine

/-- BPL: `P.N` = 0 (R271). -/
def condBpl (c : Cpu) : Bool := !c.flag .n

/-- BMI: `P.N` = 1 (R272). -/
def condBmi (c : Cpu) : Bool := c.flag .n

/-- BVC: `P.V` = 0 (R273). -/
def condBvc (c : Cpu) : Bool := !c.flag .v

/-- BVS: `P.V` = 1 (R274). -/
def condBvs (c : Cpu) : Bool := c.flag .v

/-- BCC: `P.C` = 0 (R275). -/
def condBcc (c : Cpu) : Bool := !c.flag .c

/-- BCS: `P.C` = 1 (R276). -/
def condBcs (c : Cpu) : Bool := c.flag .c

/-- BNE: `P.Z` = 0 (R277). -/
def condBne (c : Cpu) : Bool := !c.flag .z

/-- BEQ: `P.Z` = 1 (R278). -/
def condBeq (c : Cpu) : Bool := c.flag .z

/-- The micro-steps of BPL branch offset b1, opcode 0x10 (R271). -/
def seqBpl : List Micro :=
  seqBranch condBpl

/-- BPL branch offset b1, opcode 0x10 (R271). -/
def execBpl (b1 : Byte) (s : State) : Host.Outcome State Fault Refusal :=
  run seqBpl [some b1] s

/-- The micro-steps of BMI branch offset b1, opcode 0x30 (R272). -/
def seqBmi : List Micro :=
  seqBranch condBmi

/-- BMI branch offset b1, opcode 0x30 (R272). -/
def execBmi (b1 : Byte) (s : State) : Host.Outcome State Fault Refusal :=
  run seqBmi [some b1] s

/-- The micro-steps of BVC branch offset b1, opcode 0x50 (R273). -/
def seqBvc : List Micro :=
  seqBranch condBvc

/-- BVC branch offset b1, opcode 0x50 (R273). -/
def execBvc (b1 : Byte) (s : State) : Host.Outcome State Fault Refusal :=
  run seqBvc [some b1] s

/-- The micro-steps of BVS branch offset b1, opcode 0x70 (R274). -/
def seqBvs : List Micro :=
  seqBranch condBvs

/-- BVS branch offset b1, opcode 0x70 (R274). -/
def execBvs (b1 : Byte) (s : State) : Host.Outcome State Fault Refusal :=
  run seqBvs [some b1] s

/-- The micro-steps of BCC branch offset b1, opcode 0x90 (R275). -/
def seqBcc : List Micro :=
  seqBranch condBcc

/-- BCC branch offset b1, opcode 0x90 (R275). -/
def execBcc (b1 : Byte) (s : State) : Host.Outcome State Fault Refusal :=
  run seqBcc [some b1] s

/-- The micro-steps of BCS branch offset b1, opcode 0xB0 (R276). -/
def seqBcs : List Micro :=
  seqBranch condBcs

/-- BCS branch offset b1, opcode 0xB0 (R276). -/
def execBcs (b1 : Byte) (s : State) : Host.Outcome State Fault Refusal :=
  run seqBcs [some b1] s

/-- The micro-steps of BNE branch offset b1, opcode 0xD0 (R277). -/
def seqBne : List Micro :=
  seqBranch condBne

/-- BNE branch offset b1, opcode 0xD0 (R277). -/
def execBne (b1 : Byte) (s : State) : Host.Outcome State Fault Refusal :=
  run seqBne [some b1] s

/-- The micro-steps of BEQ branch offset b1, opcode 0xF0 (R278). -/
def seqBeq : List Micro :=
  seqBranch condBeq

/-- BEQ branch offset b1, opcode 0xF0 (R278). -/
def execBeq (b1 : Byte) (s : State) : Host.Outcome State Fault Refusal :=
  run seqBeq [some b1] s

/-- The micro-steps of JMP b2:b1, opcode 0x4C (R279). -/
def seqJmpAbs : List Micro :=
  [microZero, formLow, fun c => .retired { c with pc := word c.dbuf c.tmp }.retire]

/-- JMP b2:b1, opcode 0x4C (R279). -/
def execJmpAbs (b1 b2 : Byte) (s : State) : Host.Outcome State Fault Refusal :=
  run seqJmpAbs [some b1, some b2] s

/-- The micro-steps of JMP (b2:b1), opcode 0x6C (R280): the pointer's second byte is at `(PADDR + 1) mod 2^16`. -/
def seqJmpInd : List Micro :=
  [ microZero,
    formLow,
    fun c => .more (c.incPc.fetch (word c.dbuf c.tmp)),
    fun c => .more ({ c with tl := c.dbuf }.fetch (c.paddr + 1)),
    fun c => .retired { c with pc := word c.dbuf c.tl }.retire ]

/-- JMP (b2:b1), opcode 0x6C (R280). -/
def execJmpInd (b1 b2 : Byte) (s : State) : Host.Outcome State Fault Refusal :=
  run seqJmpInd [some b1, some b2] s

/-- The micro-steps of JSR b2:b1, opcode 0x20 (R281): the third byte is fetched after the two pushes. -/
def seqJsr (cfg : Config) : List Micro :=
  [ microZero,
    fun c => .more { c.incPc with tmp := c.dbuf }.idle,
    fun c => .more (c.push cfg (hiByte c.pc)),
    fun c => .more (c.push cfg (loByte c.pc)),
    fun c => .more (c.fetch c.pc),
    fun c => .retired { c with pc := word c.dbuf c.tmp }.retire ]

/-- The memory after JSR's two pushes from a state at its opcode (R281). -/
def State.afterJsrPushes (s : State) : State :=
  let ret := s.cpu.pc + 2
  (s.poke (stackAddr s.cfg s.cpu.sp) (hiByte ret)).poke (stackAddr s.cfg (s.cpu.sp - 1)) (loByte ret)

/-- The operand byte that JSR's last cycle fetches: the instruction's own `b2`, unless the pushes changed the byte at its
address; then there is none, and the cycle reads what was pushed ("a JSR whose own third byte lies in the stack page at
the push address would read the pushed byte", R281). -/
def State.jsrThirdByte (b2 : Byte) (s : State) : Option Byte :=
  if s.afterJsrPushes.peek (s.cpu.pc + 2) = s.peek (s.cpu.pc + 2) then some b2 else none

/-- JSR b2:b1, opcode 0x20 (R281). -/
def execJsr (b1 b2 : Byte) (s : State) : Host.Outcome State Fault Refusal :=
  run (seqJsr s.cfg) [some b1, none, none, none, s.jsrThirdByte b2] s

/-- The micro-steps of RTS, opcode 0x60 (R282). -/
def seqRts (cfg : Config) : List Micro :=
  [ microZero,
    fun c => .more c.idle,
    fun c => .more (c.pull cfg),
    fun c => .more ({ c with tl := c.dbuf }.pull cfg),
    fun c => .more { c with pc := word c.dbuf c.tl }.idle,
    fun c => .retired c.incPc.retire ]

/-- RTS, opcode 0x60 (R282). -/
def execRts (s : State) : Host.Outcome State Fault Refusal :=
  run (seqRts s.cfg) [] s

end Sys2Proof.Machine
end

