-- ==== Sys2Proof/Machine/Exceptions.lean ====
section
/-! DEFINITION. The interrupt arbiter and the pseudo-instructions RESET, NMI and IRQ (60_exceptions.md R364 to R367). -/

namespace Sys2Proof.Machine

/-- Selection at cycle 0 (R364): "reset-pending > NMI-pending > IRQ-pending > (else) the byte just fetched". -/
def Cpu.select (c : Cpu) : Selector :=
  if c.resPend then Config.selReset
  else if c.nmiPend then Config.selNmi
  else if c.irqPend then Config.selIrq
  else c.dbuf.setWidth 9

/-- Dispatch (R157): the selection is written to `IR`. -/
def Cpu.dispatch (c : Cpu) : Cpu :=
  { c with ir := c.select }

/-- The micro-steps of RESET (R365). -/
def seqReset (cfg : Config) : List Micro :=
  resetSequence cfg

/-- The RESET pseudo-instruction (R365). -/
def execReset (s : State) : Host.Outcome State Fault Refusal :=
  run (seqReset s.cfg) [] s

/-- The entry of NMI (R366): `I` set before the status is pushed, cleared on completion with the NMI latch. -/
def nmiEntry (cfg : Config) : Entry :=
  { vector := cfg.nmiVector, maskAtPush := true, maskAfterPush := false, completesNmi := true, forcesBits := false }

/-- The micro-steps of NMI (R366). -/
def seqNmi (cfg : Config) : List Micro :=
  entrySequence cfg (nmiEntry cfg)

/-- The NMI pseudo-instruction (R366). -/
def execNmi (s : State) : Host.Outcome State Fault Refusal :=
  run (seqNmi s.cfg) [] s

/-- The entry of IRQ (R367): the status is pushed as held, then `I` is set and stays set. -/
def irqEntry (cfg : Config) : Entry :=
  { vector := cfg.irqVector, maskAtPush := false, maskAfterPush := true, completesNmi := false, forcesBits := false }

/-- The micro-steps of IRQ (R367). -/
def seqIrq (cfg : Config) : List Micro :=
  entrySequence cfg (irqEntry cfg)

/-- The IRQ pseudo-instruction (R367). -/
def execIrq (s : State) : Host.Outcome State Fault Refusal :=
  run (seqIrq s.cfg) [] s

end Sys2Proof.Machine
end

