-- ==== Sys2Proof/Machine/LoadStore.lean ====
section
/-! DEFINITION. Load and store instructions (41_load_store.md R200 to R206). -/

namespace Sys2Proof.Machine

/-- LDA: `A <- M; setNZ(M)` (R200). -/
def opLda : ReadOp := fun m c =>
  .ok ({ c with a := m }.setNZ m)

/-- LDX: `X <- M; setNZ(M)` (R201). -/
def opLdx : ReadOp := fun m c =>
  .ok ({ c with x := m }.setNZ m)

/-- LDY: `Y <- M; setNZ(M)` (R202). -/
def opLdy : ReadOp := fun m c =>
  .ok ({ c with y := m }.setNZ m)

/-- The micro-steps of LDA (b1,X), opcode 0xA1 (R200). -/
def seqLdaInx : List Micro :=
  seqRead .inx opLda

/-- LDA (b1,X), opcode 0xA1 (R200). -/
def execLdaInx (b1 : Byte) (s : State) : Host.Outcome State Fault Refusal :=
  run seqLdaInx [some b1] s

/-- The micro-steps of LDA b1, opcode 0xA5 (R200). -/
def seqLdaZp : List Micro :=
  seqRead .zp opLda

/-- LDA b1, opcode 0xA5 (R200). -/
def execLdaZp (b1 : Byte) (s : State) : Host.Outcome State Fault Refusal :=
  run seqLdaZp [some b1] s

/-- The micro-steps of LDA #b1, opcode 0xA9 (R200). -/
def seqLdaImm : List Micro :=
  seqReadImm opLda

/-- LDA #b1, opcode 0xA9 (R200). -/
def execLdaImm (b1 : Byte) (s : State) : Host.Outcome State Fault Refusal :=
  run seqLdaImm [some b1] s

/-- The micro-steps of LDA b2:b1, opcode 0xAD (R200). -/
def seqLdaAbs : List Micro :=
  seqRead .abs opLda

/-- LDA b2:b1, opcode 0xAD (R200). -/
def execLdaAbs (b1 b2 : Byte) (s : State) : Host.Outcome State Fault Refusal :=
  run seqLdaAbs [some b1, some b2] s

/-- The micro-steps of LDA (b1),Y, opcode 0xB1 (R200). -/
def seqLdaIny : List Micro :=
  seqRead .iny opLda

/-- LDA (b1),Y, opcode 0xB1 (R200). -/
def execLdaIny (b1 : Byte) (s : State) : Host.Outcome State Fault Refusal :=
  run seqLdaIny [some b1] s

/-- The micro-steps of LDA b1,X, opcode 0xB5 (R200). -/
def seqLdaZpx : List Micro :=
  seqRead .zpx opLda

/-- LDA b1,X, opcode 0xB5 (R200). -/
def execLdaZpx (b1 : Byte) (s : State) : Host.Outcome State Fault Refusal :=
  run seqLdaZpx [some b1] s

/-- The micro-steps of LDA b2:b1,Y, opcode 0xB9 (R200). -/
def seqLdaAby : List Micro :=
  seqRead .aby opLda

/-- LDA b2:b1,Y, opcode 0xB9 (R200). -/
def execLdaAby (b1 b2 : Byte) (s : State) : Host.Outcome State Fault Refusal :=
  run seqLdaAby [some b1, some b2] s

/-- The micro-steps of LDA b2:b1,X, opcode 0xBD (R200). -/
def seqLdaAbx : List Micro :=
  seqRead .abx opLda

/-- LDA b2:b1,X, opcode 0xBD (R200). -/
def execLdaAbx (b1 b2 : Byte) (s : State) : Host.Outcome State Fault Refusal :=
  run seqLdaAbx [some b1, some b2] s

/-- The micro-steps of LDX #b1, opcode 0xA2 (R201). -/
def seqLdxImm : List Micro :=
  seqReadImm opLdx

/-- LDX #b1, opcode 0xA2 (R201). -/
def execLdxImm (b1 : Byte) (s : State) : Host.Outcome State Fault Refusal :=
  run seqLdxImm [some b1] s

/-- The micro-steps of LDX b1, opcode 0xA6 (R201). -/
def seqLdxZp : List Micro :=
  seqRead .zp opLdx

/-- LDX b1, opcode 0xA6 (R201). -/
def execLdxZp (b1 : Byte) (s : State) : Host.Outcome State Fault Refusal :=
  run seqLdxZp [some b1] s

/-- The micro-steps of LDX b2:b1, opcode 0xAE (R201). -/
def seqLdxAbs : List Micro :=
  seqRead .abs opLdx

/-- LDX b2:b1, opcode 0xAE (R201). -/
def execLdxAbs (b1 b2 : Byte) (s : State) : Host.Outcome State Fault Refusal :=
  run seqLdxAbs [some b1, some b2] s

/-- The micro-steps of LDX b1,Y, opcode 0xB6 (R201). -/
def seqLdxZpy : List Micro :=
  seqRead .zpy opLdx

/-- LDX b1,Y, opcode 0xB6 (R201). -/
def execLdxZpy (b1 : Byte) (s : State) : Host.Outcome State Fault Refusal :=
  run seqLdxZpy [some b1] s

/-- The micro-steps of LDX b2:b1,Y, opcode 0xBE (R201). -/
def seqLdxAby : List Micro :=
  seqRead .aby opLdx

/-- LDX b2:b1,Y, opcode 0xBE (R201). -/
def execLdxAby (b1 b2 : Byte) (s : State) : Host.Outcome State Fault Refusal :=
  run seqLdxAby [some b1, some b2] s

/-- The micro-steps of LDY #b1, opcode 0xA0 (R202). -/
def seqLdyImm : List Micro :=
  seqReadImm opLdy

/-- LDY #b1, opcode 0xA0 (R202). -/
def execLdyImm (b1 : Byte) (s : State) : Host.Outcome State Fault Refusal :=
  run seqLdyImm [some b1] s

/-- The micro-steps of LDY b1, opcode 0xA4 (R202). -/
def seqLdyZp : List Micro :=
  seqRead .zp opLdy

/-- LDY b1, opcode 0xA4 (R202). -/
def execLdyZp (b1 : Byte) (s : State) : Host.Outcome State Fault Refusal :=
  run seqLdyZp [some b1] s

/-- The micro-steps of LDY b2:b1, opcode 0xAC (R202). -/
def seqLdyAbs : List Micro :=
  seqRead .abs opLdy

/-- LDY b2:b1, opcode 0xAC (R202). -/
def execLdyAbs (b1 b2 : Byte) (s : State) : Host.Outcome State Fault Refusal :=
  run seqLdyAbs [some b1, some b2] s

/-- The micro-steps of LDY b1,X, opcode 0xB4 (R202). -/
def seqLdyZpx : List Micro :=
  seqRead .zpx opLdy

/-- LDY b1,X, opcode 0xB4 (R202). -/
def execLdyZpx (b1 : Byte) (s : State) : Host.Outcome State Fault Refusal :=
  run seqLdyZpx [some b1] s

/-- The micro-steps of LDY b2:b1,X, opcode 0xBC (R202). -/
def seqLdyAbx : List Micro :=
  seqRead .abx opLdy

/-- LDY b2:b1,X, opcode 0xBC (R202). -/
def execLdyAbx (b1 b2 : Byte) (s : State) : Host.Outcome State Fault Refusal :=
  run seqLdyAbx [some b1, some b2] s

/-- The micro-steps of STA (b1,X), opcode 0x81 (R203). -/
def seqStaInx : List Micro :=
  seqWrite .inx Cpu.a

/-- STA (b1,X), opcode 0x81 (R203). -/
def execStaInx (b1 : Byte) (s : State) : Host.Outcome State Fault Refusal :=
  run seqStaInx [some b1] s

/-- The micro-steps of STA b1, opcode 0x85 (R203). -/
def seqStaZp : List Micro :=
  seqWrite .zp Cpu.a

/-- STA b1, opcode 0x85 (R203). -/
def execStaZp (b1 : Byte) (s : State) : Host.Outcome State Fault Refusal :=
  run seqStaZp [some b1] s

/-- The micro-steps of STA b2:b1, opcode 0x8D (R203). -/
def seqStaAbs : List Micro :=
  seqWrite .abs Cpu.a

/-- STA b2:b1, opcode 0x8D (R203). -/
def execStaAbs (b1 b2 : Byte) (s : State) : Host.Outcome State Fault Refusal :=
  run seqStaAbs [some b1, some b2] s

/-- The micro-steps of STA (b1),Y, opcode 0x91 (R203). -/
def seqStaIny : List Micro :=
  seqWrite .iny Cpu.a

/-- STA (b1),Y, opcode 0x91 (R203). -/
def execStaIny (b1 : Byte) (s : State) : Host.Outcome State Fault Refusal :=
  run seqStaIny [some b1] s

/-- The micro-steps of STA b1,X, opcode 0x95 (R203). -/
def seqStaZpx : List Micro :=
  seqWrite .zpx Cpu.a

/-- STA b1,X, opcode 0x95 (R203). -/
def execStaZpx (b1 : Byte) (s : State) : Host.Outcome State Fault Refusal :=
  run seqStaZpx [some b1] s

/-- The micro-steps of STA b2:b1,Y, opcode 0x99 (R203). -/
def seqStaAby : List Micro :=
  seqWrite .aby Cpu.a

/-- STA b2:b1,Y, opcode 0x99 (R203). -/
def execStaAby (b1 b2 : Byte) (s : State) : Host.Outcome State Fault Refusal :=
  run seqStaAby [some b1, some b2] s

/-- The micro-steps of STA b2:b1,X, opcode 0x9D (R203). -/
def seqStaAbx : List Micro :=
  seqWrite .abx Cpu.a

/-- STA b2:b1,X, opcode 0x9D (R203). -/
def execStaAbx (b1 b2 : Byte) (s : State) : Host.Outcome State Fault Refusal :=
  run seqStaAbx [some b1, some b2] s

/-- The micro-steps of STX b1, opcode 0x86 (R204). -/
def seqStxZp : List Micro :=
  seqWrite .zp Cpu.x

/-- STX b1, opcode 0x86 (R204). -/
def execStxZp (b1 : Byte) (s : State) : Host.Outcome State Fault Refusal :=
  run seqStxZp [some b1] s

/-- The micro-steps of STX b2:b1, opcode 0x8E (R204). -/
def seqStxAbs : List Micro :=
  seqWrite .abs Cpu.x

/-- STX b2:b1, opcode 0x8E (R204). -/
def execStxAbs (b1 b2 : Byte) (s : State) : Host.Outcome State Fault Refusal :=
  run seqStxAbs [some b1, some b2] s

/-- The micro-steps of STX b1,Y, opcode 0x96 (R204). -/
def seqStxZpy : List Micro :=
  seqWrite .zpy Cpu.x

/-- STX b1,Y, opcode 0x96 (R204). -/
def execStxZpy (b1 : Byte) (s : State) : Host.Outcome State Fault Refusal :=
  run seqStxZpy [some b1] s

/-- The micro-steps of STY b1, opcode 0x84 (R205). -/
def seqStyZp : List Micro :=
  seqWrite .zp Cpu.y

/-- STY b1, opcode 0x84 (R205). -/
def execStyZp (b1 : Byte) (s : State) : Host.Outcome State Fault Refusal :=
  run seqStyZp [some b1] s

/-- The micro-steps of STY b2:b1, opcode 0x8C (R205). -/
def seqStyAbs : List Micro :=
  seqWrite .abs Cpu.y

/-- STY b2:b1, opcode 0x8C (R205). -/
def execStyAbs (b1 b2 : Byte) (s : State) : Host.Outcome State Fault Refusal :=
  run seqStyAbs [some b1, some b2] s

/-- The micro-steps of STY b1,X, opcode 0x94 (R205). -/
def seqStyZpx : List Micro :=
  seqWrite .zpx Cpu.y

/-- STY b1,X, opcode 0x94 (R205). -/
def execStyZpx (b1 : Byte) (s : State) : Host.Outcome State Fault Refusal :=
  run seqStyZpx [some b1] s

end Sys2Proof.Machine
end

