-- ==== Sys2Proof/Machine/ShiftIncDec.lean ====
section
/-! DEFINITION. Shift, rotate, increment and decrement instructions (43_shift_incdec.md R250 to R259). -/

namespace Sys2Proof.Machine

/-- ASL (R250). -/
def opAsl : ModifyOp := fun v c =>
  ((asl8 v).r, c.setShift (asl8 v))

/-- LSR (R251). -/
def opLsr : ModifyOp := fun v c =>
  ((lsr8 v).r, c.setShift (lsr8 v))

/-- ROL (R252); the carry rotated in is the one before the instruction. -/
def opRol : ModifyOp := fun v c =>
  ((rol8 v (c.flag .c)).r, c.setShift (rol8 v (c.flag .c)))

/-- ROR (R253); the carry rotated in is the one before the instruction. -/
def opRor : ModifyOp := fun v c =>
  ((ror8 v (c.flag .c)).r, c.setShift (ror8 v (c.flag .c)))

/-- INC: `r <- (v + 1) mod 256; setNZ(r)` (R254). -/
def opInc : ModifyOp := fun v c =>
  (v + 1, c.setNZ (v + 1))

/-- DEC: `r <- (v - 1) mod 256; setNZ(r)` (R255). -/
def opDec : ModifyOp := fun v c =>
  (v - 1, c.setNZ (v - 1))

/-- INX: `X <- (X + 1) mod 256; setNZ(X)` (R256). -/
def actInx (c : Cpu) : Cpu :=
  { c with x := c.x + 1 }.setNZ (c.x + 1)

/-- INY: `Y <- (Y + 1) mod 256; setNZ(Y)` (R257). -/
def actIny (c : Cpu) : Cpu :=
  { c with y := c.y + 1 }.setNZ (c.y + 1)

/-- DEX: `X <- (X - 1) mod 256; setNZ(X)` (R258). -/
def actDex (c : Cpu) : Cpu :=
  { c with x := c.x - 1 }.setNZ (c.x - 1)

/-- DEY: `Y <- (Y - 1) mod 256; setNZ(Y)` (R259). -/
def actDey (c : Cpu) : Cpu :=
  { c with y := c.y - 1 }.setNZ (c.y - 1)

/-- The micro-steps of ASL b1, opcode 0x06 (R250). -/
def seqAslZp : List Micro :=
  seqModify .zp opAsl

/-- ASL b1, opcode 0x06 (R250). -/
def execAslZp (b1 : Byte) (s : State) : Host.Outcome State Fault Refusal :=
  run seqAslZp [some b1] s

/-- The micro-steps of ASL A, opcode 0x0A (R250). -/
def seqAslAcc : List Micro :=
  seqAccumulator opAsl

/-- ASL A, opcode 0x0A (R250). -/
def execAslAcc (s : State) : Host.Outcome State Fault Refusal :=
  run seqAslAcc [] s

/-- The micro-steps of ASL b2:b1, opcode 0x0E (R250). -/
def seqAslAbs : List Micro :=
  seqModify .abs opAsl

/-- ASL b2:b1, opcode 0x0E (R250). -/
def execAslAbs (b1 b2 : Byte) (s : State) : Host.Outcome State Fault Refusal :=
  run seqAslAbs [some b1, some b2] s

/-- The micro-steps of ASL b1,X, opcode 0x16 (R250). -/
def seqAslZpx : List Micro :=
  seqModify .zpx opAsl

/-- ASL b1,X, opcode 0x16 (R250). -/
def execAslZpx (b1 : Byte) (s : State) : Host.Outcome State Fault Refusal :=
  run seqAslZpx [some b1] s

/-- The micro-steps of ASL b2:b1,X, opcode 0x1E (R250). -/
def seqAslAbx : List Micro :=
  seqModify .abx opAsl

/-- ASL b2:b1,X, opcode 0x1E (R250). -/
def execAslAbx (b1 b2 : Byte) (s : State) : Host.Outcome State Fault Refusal :=
  run seqAslAbx [some b1, some b2] s

/-- The micro-steps of LSR b1, opcode 0x46 (R251). -/
def seqLsrZp : List Micro :=
  seqModify .zp opLsr

/-- LSR b1, opcode 0x46 (R251). -/
def execLsrZp (b1 : Byte) (s : State) : Host.Outcome State Fault Refusal :=
  run seqLsrZp [some b1] s

/-- The micro-steps of LSR A, opcode 0x4A (R251). -/
def seqLsrAcc : List Micro :=
  seqAccumulator opLsr

/-- LSR A, opcode 0x4A (R251). -/
def execLsrAcc (s : State) : Host.Outcome State Fault Refusal :=
  run seqLsrAcc [] s

/-- The micro-steps of LSR b2:b1, opcode 0x4E (R251). -/
def seqLsrAbs : List Micro :=
  seqModify .abs opLsr

/-- LSR b2:b1, opcode 0x4E (R251). -/
def execLsrAbs (b1 b2 : Byte) (s : State) : Host.Outcome State Fault Refusal :=
  run seqLsrAbs [some b1, some b2] s

/-- The micro-steps of LSR b1,X, opcode 0x56 (R251). -/
def seqLsrZpx : List Micro :=
  seqModify .zpx opLsr

/-- LSR b1,X, opcode 0x56 (R251). -/
def execLsrZpx (b1 : Byte) (s : State) : Host.Outcome State Fault Refusal :=
  run seqLsrZpx [some b1] s

/-- The micro-steps of LSR b2:b1,X, opcode 0x5E (R251). -/
def seqLsrAbx : List Micro :=
  seqModify .abx opLsr

/-- LSR b2:b1,X, opcode 0x5E (R251). -/
def execLsrAbx (b1 b2 : Byte) (s : State) : Host.Outcome State Fault Refusal :=
  run seqLsrAbx [some b1, some b2] s

/-- The micro-steps of ROL b1, opcode 0x26 (R252). -/
def seqRolZp : List Micro :=
  seqModify .zp opRol

/-- ROL b1, opcode 0x26 (R252). -/
def execRolZp (b1 : Byte) (s : State) : Host.Outcome State Fault Refusal :=
  run seqRolZp [some b1] s

/-- The micro-steps of ROL A, opcode 0x2A (R252). -/
def seqRolAcc : List Micro :=
  seqAccumulator opRol

/-- ROL A, opcode 0x2A (R252). -/
def execRolAcc (s : State) : Host.Outcome State Fault Refusal :=
  run seqRolAcc [] s

/-- The micro-steps of ROL b2:b1, opcode 0x2E (R252). -/
def seqRolAbs : List Micro :=
  seqModify .abs opRol

/-- ROL b2:b1, opcode 0x2E (R252). -/
def execRolAbs (b1 b2 : Byte) (s : State) : Host.Outcome State Fault Refusal :=
  run seqRolAbs [some b1, some b2] s

/-- The micro-steps of ROL b1,X, opcode 0x36 (R252). -/
def seqRolZpx : List Micro :=
  seqModify .zpx opRol

/-- ROL b1,X, opcode 0x36 (R252). -/
def execRolZpx (b1 : Byte) (s : State) : Host.Outcome State Fault Refusal :=
  run seqRolZpx [some b1] s

/-- The micro-steps of ROL b2:b1,X, opcode 0x3E (R252). -/
def seqRolAbx : List Micro :=
  seqModify .abx opRol

/-- ROL b2:b1,X, opcode 0x3E (R252). -/
def execRolAbx (b1 b2 : Byte) (s : State) : Host.Outcome State Fault Refusal :=
  run seqRolAbx [some b1, some b2] s

/-- The micro-steps of ROR b1, opcode 0x66 (R253). -/
def seqRorZp : List Micro :=
  seqModify .zp opRor

/-- ROR b1, opcode 0x66 (R253). -/
def execRorZp (b1 : Byte) (s : State) : Host.Outcome State Fault Refusal :=
  run seqRorZp [some b1] s

/-- The micro-steps of ROR A, opcode 0x6A (R253). -/
def seqRorAcc : List Micro :=
  seqAccumulator opRor

/-- ROR A, opcode 0x6A (R253). -/
def execRorAcc (s : State) : Host.Outcome State Fault Refusal :=
  run seqRorAcc [] s

/-- The micro-steps of ROR b2:b1, opcode 0x6E (R253). -/
def seqRorAbs : List Micro :=
  seqModify .abs opRor

/-- ROR b2:b1, opcode 0x6E (R253). -/
def execRorAbs (b1 b2 : Byte) (s : State) : Host.Outcome State Fault Refusal :=
  run seqRorAbs [some b1, some b2] s

/-- The micro-steps of ROR b1,X, opcode 0x76 (R253). -/
def seqRorZpx : List Micro :=
  seqModify .zpx opRor

/-- ROR b1,X, opcode 0x76 (R253). -/
def execRorZpx (b1 : Byte) (s : State) : Host.Outcome State Fault Refusal :=
  run seqRorZpx [some b1] s

/-- The micro-steps of ROR b2:b1,X, opcode 0x7E (R253). -/
def seqRorAbx : List Micro :=
  seqModify .abx opRor

/-- ROR b2:b1,X, opcode 0x7E (R253). -/
def execRorAbx (b1 b2 : Byte) (s : State) : Host.Outcome State Fault Refusal :=
  run seqRorAbx [some b1, some b2] s

/-- The micro-steps of INC b1, opcode 0xE6 (R254). -/
def seqIncZp : List Micro :=
  seqModify .zp opInc

/-- INC b1, opcode 0xE6 (R254). -/
def execIncZp (b1 : Byte) (s : State) : Host.Outcome State Fault Refusal :=
  run seqIncZp [some b1] s

/-- The micro-steps of INC b2:b1, opcode 0xEE (R254). -/
def seqIncAbs : List Micro :=
  seqModify .abs opInc

/-- INC b2:b1, opcode 0xEE (R254). -/
def execIncAbs (b1 b2 : Byte) (s : State) : Host.Outcome State Fault Refusal :=
  run seqIncAbs [some b1, some b2] s

/-- The micro-steps of INC b1,X, opcode 0xF6 (R254). -/
def seqIncZpx : List Micro :=
  seqModify .zpx opInc

/-- INC b1,X, opcode 0xF6 (R254). -/
def execIncZpx (b1 : Byte) (s : State) : Host.Outcome State Fault Refusal :=
  run seqIncZpx [some b1] s

/-- The micro-steps of INC b2:b1,X, opcode 0xFE (R254). -/
def seqIncAbx : List Micro :=
  seqModify .abx opInc

/-- INC b2:b1,X, opcode 0xFE (R254). -/
def execIncAbx (b1 b2 : Byte) (s : State) : Host.Outcome State Fault Refusal :=
  run seqIncAbx [some b1, some b2] s

/-- The micro-steps of DEC b1, opcode 0xC6 (R255). -/
def seqDecZp : List Micro :=
  seqModify .zp opDec

/-- DEC b1, opcode 0xC6 (R255). -/
def execDecZp (b1 : Byte) (s : State) : Host.Outcome State Fault Refusal :=
  run seqDecZp [some b1] s

/-- The micro-steps of DEC b2:b1, opcode 0xCE (R255). -/
def seqDecAbs : List Micro :=
  seqModify .abs opDec

/-- DEC b2:b1, opcode 0xCE (R255). -/
def execDecAbs (b1 b2 : Byte) (s : State) : Host.Outcome State Fault Refusal :=
  run seqDecAbs [some b1, some b2] s

/-- The micro-steps of DEC b1,X, opcode 0xD6 (R255). -/
def seqDecZpx : List Micro :=
  seqModify .zpx opDec

/-- DEC b1,X, opcode 0xD6 (R255). -/
def execDecZpx (b1 : Byte) (s : State) : Host.Outcome State Fault Refusal :=
  run seqDecZpx [some b1] s

/-- The micro-steps of DEC b2:b1,X, opcode 0xDE (R255). -/
def seqDecAbx : List Micro :=
  seqModify .abx opDec

/-- DEC b2:b1,X, opcode 0xDE (R255). -/
def execDecAbx (b1 b2 : Byte) (s : State) : Host.Outcome State Fault Refusal :=
  run seqDecAbx [some b1, some b2] s

/-- The micro-steps of INX, opcode 0xE8 (R256). -/
def seqInx : List Micro :=
  seqImplied actInx

/-- INX, opcode 0xE8 (R256). -/
def execInx (s : State) : Host.Outcome State Fault Refusal :=
  run seqInx [] s

/-- The micro-steps of INY, opcode 0xC8 (R257). -/
def seqIny : List Micro :=
  seqImplied actIny

/-- INY, opcode 0xC8 (R257). -/
def execIny (s : State) : Host.Outcome State Fault Refusal :=
  run seqIny [] s

/-- The micro-steps of DEX, opcode 0xCA (R258). -/
def seqDex : List Micro :=
  seqImplied actDex

/-- DEX, opcode 0xCA (R258). -/
def execDex (s : State) : Host.Outcome State Fault Refusal :=
  run seqDex [] s

/-- The micro-steps of DEY, opcode 0x88 (R259). -/
def seqDey : List Micro :=
  seqImplied actDey

/-- DEY, opcode 0x88 (R259). -/
def execDey (s : State) : Host.Outcome State Fault Refusal :=
  run seqDey [] s

end Sys2Proof.Machine
end

