-- ==== Sys2Proof/Machine/StackFlagTransfer.lean ====
section
/-! DEFINITION. Stack, flag and transfer instructions and NOP (45_stack_flag_transfer.md R300 to R317). -/

namespace Sys2Proof.Machine

/-- PLA: `A <- DBUF; setNZ(A)` (R302). -/
def takePla (v : Byte) (c : Cpu) : Cpu :=
  { c with a := v }.setNZ v

/-- PLP: `P <- DBUF | 0x30` (R303). -/
def takePlp (v : Byte) (c : Cpu) : Cpu :=
  { c with p := forceStatus v }

/-- The micro-steps of PHA, opcode 0x48 (R300). -/
def seqPha (cfg : Config) : List Micro :=
  seqPush cfg Cpu.a

/-- PHA, opcode 0x48 (R300). -/
def execPha (s : State) : Host.Outcome State Fault Refusal :=
  run (seqPha s.cfg) [] s

/-- The micro-steps of PHP, opcode 0x08 (R301). -/
def seqPhp (cfg : Config) : List Micro :=
  seqPush cfg fun c => forceStatus c.p

/-- PHP, opcode 0x08 (R301). -/
def execPhp (s : State) : Host.Outcome State Fault Refusal :=
  run (seqPhp s.cfg) [] s

/-- The micro-steps of PLA, opcode 0x68 (R302). -/
def seqPla (cfg : Config) : List Micro :=
  seqPull cfg takePla

/-- PLA, opcode 0x68 (R302). -/
def execPla (s : State) : Host.Outcome State Fault Refusal :=
  run (seqPla s.cfg) [] s

/-- The micro-steps of PLP, opcode 0x28 (R303). -/
def seqPlp (cfg : Config) : List Micro :=
  seqPull cfg takePlp

/-- PLP, opcode 0x28 (R303). -/
def execPlp (s : State) : Host.Outcome State Fault Refusal :=
  run (seqPlp s.cfg) [] s

/-- CLC: `P.C <- 0` (R304). -/
def actClc (c : Cpu) : Cpu :=
  c.setFlag .c false

/-- SEC: `P.C <- 1` (R305). -/
def actSec (c : Cpu) : Cpu :=
  c.setFlag .c true

/-- CLI: `P.I <- 0` (R306). -/
def actCli (c : Cpu) : Cpu :=
  c.setFlag .i false

/-- SEI: `P.I <- 1` (R307). -/
def actSei (c : Cpu) : Cpu :=
  c.setFlag .i true

/-- CLV: `P.V <- 0` (R308). -/
def actClv (c : Cpu) : Cpu :=
  c.setFlag .v false

/-- CLD: `P.D <- 0` (R309). -/
def actCld (c : Cpu) : Cpu :=
  c.setFlag .d false

/-- SED: `P.D <- 1` (R310). -/
def actSed (c : Cpu) : Cpu :=
  c.setFlag .d true

/-- The micro-steps of CLC, opcode 0x18 (R304). -/
def seqClc : List Micro :=
  seqImplied actClc

/-- CLC, opcode 0x18 (R304). -/
def execClc (s : State) : Host.Outcome State Fault Refusal :=
  run seqClc [] s

/-- The micro-steps of SEC, opcode 0x38 (R305). -/
def seqSec : List Micro :=
  seqImplied actSec

/-- SEC, opcode 0x38 (R305). -/
def execSec (s : State) : Host.Outcome State Fault Refusal :=
  run seqSec [] s

/-- The micro-steps of CLI, opcode 0x58 (R306). -/
def seqCli : List Micro :=
  seqImplied actCli

/-- CLI, opcode 0x58 (R306). -/
def execCli (s : State) : Host.Outcome State Fault Refusal :=
  run seqCli [] s

/-- The micro-steps of SEI, opcode 0x78 (R307). -/
def seqSei : List Micro :=
  seqImplied actSei

/-- SEI, opcode 0x78 (R307). -/
def execSei (s : State) : Host.Outcome State Fault Refusal :=
  run seqSei [] s

/-- The micro-steps of CLV, opcode 0xB8 (R308). -/
def seqClv : List Micro :=
  seqImplied actClv

/-- CLV, opcode 0xB8 (R308). -/
def execClv (s : State) : Host.Outcome State Fault Refusal :=
  run seqClv [] s

/-- The micro-steps of CLD, opcode 0xD8 (R309). -/
def seqCld : List Micro :=
  seqImplied actCld

/-- CLD, opcode 0xD8 (R309). -/
def execCld (s : State) : Host.Outcome State Fault Refusal :=
  run seqCld [] s

/-- The micro-steps of SED, opcode 0xF8 (R310). -/
def seqSed : List Micro :=
  seqImplied actSed

/-- SED, opcode 0xF8 (R310). -/
def execSed (s : State) : Host.Outcome State Fault Refusal :=
  run seqSed [] s

/-- TAX: `X <- A; setNZ(X)` (R311). -/
def actTax (c : Cpu) : Cpu :=
  { c with x := c.a }.setNZ c.a

/-- TAY: `Y <- A; setNZ(Y)` (R312). -/
def actTay (c : Cpu) : Cpu :=
  { c with y := c.a }.setNZ c.a

/-- TSX: `X <- SP; setNZ(X)` (R313). -/
def actTsx (c : Cpu) : Cpu :=
  { c with x := c.sp }.setNZ c.sp

/-- TXA: `A <- X; setNZ(A)` (R314). -/
def actTxa (c : Cpu) : Cpu :=
  { c with a := c.x }.setNZ c.x

/-- TXS: `SP <- X`; no flag (R315). -/
def actTxs (c : Cpu) : Cpu :=
  { c with sp := c.x }

/-- TYA: `A <- Y; setNZ(A)` (R316). -/
def actTya (c : Cpu) : Cpu :=
  { c with a := c.y }.setNZ c.y

/-- NOP: no action (R317). -/
def actNop (c : Cpu) : Cpu :=
  c

/-- The micro-steps of TAX, opcode 0xAA (R311). -/
def seqTax : List Micro :=
  seqImplied actTax

/-- TAX, opcode 0xAA (R311). -/
def execTax (s : State) : Host.Outcome State Fault Refusal :=
  run seqTax [] s

/-- The micro-steps of TAY, opcode 0xA8 (R312). -/
def seqTay : List Micro :=
  seqImplied actTay

/-- TAY, opcode 0xA8 (R312). -/
def execTay (s : State) : Host.Outcome State Fault Refusal :=
  run seqTay [] s

/-- The micro-steps of TSX, opcode 0xBA (R313). -/
def seqTsx : List Micro :=
  seqImplied actTsx

/-- TSX, opcode 0xBA (R313). -/
def execTsx (s : State) : Host.Outcome State Fault Refusal :=
  run seqTsx [] s

/-- The micro-steps of TXA, opcode 0x8A (R314). -/
def seqTxa : List Micro :=
  seqImplied actTxa

/-- TXA, opcode 0x8A (R314). -/
def execTxa (s : State) : Host.Outcome State Fault Refusal :=
  run seqTxa [] s

/-- The micro-steps of TXS, opcode 0x9A (R315). -/
def seqTxs : List Micro :=
  seqImplied actTxs

/-- TXS, opcode 0x9A (R315). -/
def execTxs (s : State) : Host.Outcome State Fault Refusal :=
  run seqTxs [] s

/-- The micro-steps of TYA, opcode 0x98 (R316). -/
def seqTya : List Micro :=
  seqImplied actTya

/-- TYA, opcode 0x98 (R316). -/
def execTya (s : State) : Host.Outcome State Fault Refusal :=
  run seqTya [] s

/-- The micro-steps of NOP, opcode 0xEA (R317). -/
def seqNop : List Micro :=
  seqImplied actNop

/-- NOP, opcode 0xEA (R317). -/
def execNop (s : State) : Host.Outcome State Fault Refusal :=
  run seqNop [] s

end Sys2Proof.Machine
end

