-- ==== Sys2Proof/Machine/System.lean ====
section
/-! DEFINITION. BRK, RTI and the placeholder of the unmapped opcodes (46_system.md R340 to R342). -/

namespace Sys2Proof.Machine

/-- The entry BRK takes (R340): through `IRQ_VECTOR`, status pushed as `P | 0x30` before `I` is set. -/
def brkEntry (cfg : Config) : Entry :=
  { vector := cfg.irqVector, maskAtPush := false, maskAfterPush := true, completesNmi := false, forcesBits := true }

/-- The micro-steps of BRK, opcode 0x00 (R340): `PC` steps over the padding byte in the micro-step of the first push. -/
def seqBrk (cfg : Config) : List Micro :=
  microZero :: (fun c => .more (c.incPc.push cfg (hiByte (c.pc + 1)))) :: (entrySequence cfg (brkEntry cfg)).tail

/-- BRK, opcode 0x00 (R340). -/
def execBrk (s : State) : Host.Outcome State Fault Refusal :=
  run (seqBrk s.cfg) [] s

/-- The micro-steps of RTI, opcode 0x40 (R341). -/
def seqRti (cfg : Config) : List Micro :=
  returnSequence cfg

/-- RTI, opcode 0x40 (R341). -/
def execRti (s : State) : Host.Outcome State Fault Refusal :=
  run (seqRti s.cfg) [] s

/-- The placeholder of every unmapped opcode: "micro-step 0: `PC <- PC + 1; retire`" (R342). -/
def seqUnmapped : List Micro :=
  [fun c => .retired c.incPc.retire]

/-- Unmapped opcode 0x02 (R342). -/
def execUnmapped02 (s : State) : Host.Outcome State Fault Refusal :=
  run seqUnmapped [] s

/-- Unmapped opcode 0x03 (R342). -/
def execUnmapped03 (s : State) : Host.Outcome State Fault Refusal :=
  run seqUnmapped [] s

/-- Unmapped opcode 0x04 (R342). -/
def execUnmapped04 (s : State) : Host.Outcome State Fault Refusal :=
  run seqUnmapped [] s

/-- Unmapped opcode 0x07 (R342). -/
def execUnmapped07 (s : State) : Host.Outcome State Fault Refusal :=
  run seqUnmapped [] s

/-- Unmapped opcode 0x0B (R342). -/
def execUnmapped0B (s : State) : Host.Outcome State Fault Refusal :=
  run seqUnmapped [] s

/-- Unmapped opcode 0x0C (R342). -/
def execUnmapped0C (s : State) : Host.Outcome State Fault Refusal :=
  run seqUnmapped [] s

/-- Unmapped opcode 0x0F (R342). -/
def execUnmapped0F (s : State) : Host.Outcome State Fault Refusal :=
  run seqUnmapped [] s

/-- Unmapped opcode 0x12 (R342). -/
def execUnmapped12 (s : State) : Host.Outcome State Fault Refusal :=
  run seqUnmapped [] s

/-- Unmapped opcode 0x13 (R342). -/
def execUnmapped13 (s : State) : Host.Outcome State Fault Refusal :=
  run seqUnmapped [] s

/-- Unmapped opcode 0x14 (R342). -/
def execUnmapped14 (s : State) : Host.Outcome State Fault Refusal :=
  run seqUnmapped [] s

/-- Unmapped opcode 0x17 (R342). -/
def execUnmapped17 (s : State) : Host.Outcome State Fault Refusal :=
  run seqUnmapped [] s

/-- Unmapped opcode 0x1A (R342). -/
def execUnmapped1A (s : State) : Host.Outcome State Fault Refusal :=
  run seqUnmapped [] s

/-- Unmapped opcode 0x1B (R342). -/
def execUnmapped1B (s : State) : Host.Outcome State Fault Refusal :=
  run seqUnmapped [] s

/-- Unmapped opcode 0x1C (R342). -/
def execUnmapped1C (s : State) : Host.Outcome State Fault Refusal :=
  run seqUnmapped [] s

/-- Unmapped opcode 0x1F (R342). -/
def execUnmapped1F (s : State) : Host.Outcome State Fault Refusal :=
  run seqUnmapped [] s

/-- Unmapped opcode 0x22 (R342). -/
def execUnmapped22 (s : State) : Host.Outcome State Fault Refusal :=
  run seqUnmapped [] s

/-- Unmapped opcode 0x23 (R342). -/
def execUnmapped23 (s : State) : Host.Outcome State Fault Refusal :=
  run seqUnmapped [] s

/-- Unmapped opcode 0x27 (R342). -/
def execUnmapped27 (s : State) : Host.Outcome State Fault Refusal :=
  run seqUnmapped [] s

/-- Unmapped opcode 0x2B (R342). -/
def execUnmapped2B (s : State) : Host.Outcome State Fault Refusal :=
  run seqUnmapped [] s

/-- Unmapped opcode 0x2F (R342). -/
def execUnmapped2F (s : State) : Host.Outcome State Fault Refusal :=
  run seqUnmapped [] s

/-- Unmapped opcode 0x32 (R342). -/
def execUnmapped32 (s : State) : Host.Outcome State Fault Refusal :=
  run seqUnmapped [] s

/-- Unmapped opcode 0x33 (R342). -/
def execUnmapped33 (s : State) : Host.Outcome State Fault Refusal :=
  run seqUnmapped [] s

/-- Unmapped opcode 0x34 (R342). -/
def execUnmapped34 (s : State) : Host.Outcome State Fault Refusal :=
  run seqUnmapped [] s

/-- Unmapped opcode 0x37 (R342). -/
def execUnmapped37 (s : State) : Host.Outcome State Fault Refusal :=
  run seqUnmapped [] s

/-- Unmapped opcode 0x3A (R342). -/
def execUnmapped3A (s : State) : Host.Outcome State Fault Refusal :=
  run seqUnmapped [] s

/-- Unmapped opcode 0x3B (R342). -/
def execUnmapped3B (s : State) : Host.Outcome State Fault Refusal :=
  run seqUnmapped [] s

/-- Unmapped opcode 0x3C (R342). -/
def execUnmapped3C (s : State) : Host.Outcome State Fault Refusal :=
  run seqUnmapped [] s

/-- Unmapped opcode 0x3F (R342). -/
def execUnmapped3F (s : State) : Host.Outcome State Fault Refusal :=
  run seqUnmapped [] s

/-- Unmapped opcode 0x42 (R342). -/
def execUnmapped42 (s : State) : Host.Outcome State Fault Refusal :=
  run seqUnmapped [] s

/-- Unmapped opcode 0x43 (R342). -/
def execUnmapped43 (s : State) : Host.Outcome State Fault Refusal :=
  run seqUnmapped [] s

/-- Unmapped opcode 0x44 (R342). -/
def execUnmapped44 (s : State) : Host.Outcome State Fault Refusal :=
  run seqUnmapped [] s

/-- Unmapped opcode 0x47 (R342). -/
def execUnmapped47 (s : State) : Host.Outcome State Fault Refusal :=
  run seqUnmapped [] s

/-- Unmapped opcode 0x4B (R342). -/
def execUnmapped4B (s : State) : Host.Outcome State Fault Refusal :=
  run seqUnmapped [] s

/-- Unmapped opcode 0x4F (R342). -/
def execUnmapped4F (s : State) : Host.Outcome State Fault Refusal :=
  run seqUnmapped [] s

/-- Unmapped opcode 0x52 (R342). -/
def execUnmapped52 (s : State) : Host.Outcome State Fault Refusal :=
  run seqUnmapped [] s

/-- Unmapped opcode 0x53 (R342). -/
def execUnmapped53 (s : State) : Host.Outcome State Fault Refusal :=
  run seqUnmapped [] s

/-- Unmapped opcode 0x54 (R342). -/
def execUnmapped54 (s : State) : Host.Outcome State Fault Refusal :=
  run seqUnmapped [] s

/-- Unmapped opcode 0x57 (R342). -/
def execUnmapped57 (s : State) : Host.Outcome State Fault Refusal :=
  run seqUnmapped [] s

/-- Unmapped opcode 0x5A (R342). -/
def execUnmapped5A (s : State) : Host.Outcome State Fault Refusal :=
  run seqUnmapped [] s

/-- Unmapped opcode 0x5B (R342). -/
def execUnmapped5B (s : State) : Host.Outcome State Fault Refusal :=
  run seqUnmapped [] s

/-- Unmapped opcode 0x5C (R342). -/
def execUnmapped5C (s : State) : Host.Outcome State Fault Refusal :=
  run seqUnmapped [] s

/-- Unmapped opcode 0x5F (R342). -/
def execUnmapped5F (s : State) : Host.Outcome State Fault Refusal :=
  run seqUnmapped [] s

/-- Unmapped opcode 0x62 (R342). -/
def execUnmapped62 (s : State) : Host.Outcome State Fault Refusal :=
  run seqUnmapped [] s

/-- Unmapped opcode 0x63 (R342). -/
def execUnmapped63 (s : State) : Host.Outcome State Fault Refusal :=
  run seqUnmapped [] s

/-- Unmapped opcode 0x64 (R342). -/
def execUnmapped64 (s : State) : Host.Outcome State Fault Refusal :=
  run seqUnmapped [] s

/-- Unmapped opcode 0x67 (R342). -/
def execUnmapped67 (s : State) : Host.Outcome State Fault Refusal :=
  run seqUnmapped [] s

/-- Unmapped opcode 0x6B (R342). -/
def execUnmapped6B (s : State) : Host.Outcome State Fault Refusal :=
  run seqUnmapped [] s

/-- Unmapped opcode 0x6F (R342). -/
def execUnmapped6F (s : State) : Host.Outcome State Fault Refusal :=
  run seqUnmapped [] s

/-- Unmapped opcode 0x72 (R342). -/
def execUnmapped72 (s : State) : Host.Outcome State Fault Refusal :=
  run seqUnmapped [] s

/-- Unmapped opcode 0x73 (R342). -/
def execUnmapped73 (s : State) : Host.Outcome State Fault Refusal :=
  run seqUnmapped [] s

/-- Unmapped opcode 0x74 (R342). -/
def execUnmapped74 (s : State) : Host.Outcome State Fault Refusal :=
  run seqUnmapped [] s

/-- Unmapped opcode 0x77 (R342). -/
def execUnmapped77 (s : State) : Host.Outcome State Fault Refusal :=
  run seqUnmapped [] s

/-- Unmapped opcode 0x7A (R342). -/
def execUnmapped7A (s : State) : Host.Outcome State Fault Refusal :=
  run seqUnmapped [] s

/-- Unmapped opcode 0x7B (R342). -/
def execUnmapped7B (s : State) : Host.Outcome State Fault Refusal :=
  run seqUnmapped [] s

/-- Unmapped opcode 0x7C (R342). -/
def execUnmapped7C (s : State) : Host.Outcome State Fault Refusal :=
  run seqUnmapped [] s

/-- Unmapped opcode 0x7F (R342). -/
def execUnmapped7F (s : State) : Host.Outcome State Fault Refusal :=
  run seqUnmapped [] s

/-- Unmapped opcode 0x80 (R342). -/
def execUnmapped80 (s : State) : Host.Outcome State Fault Refusal :=
  run seqUnmapped [] s

/-- Unmapped opcode 0x82 (R342). -/
def execUnmapped82 (s : State) : Host.Outcome State Fault Refusal :=
  run seqUnmapped [] s

/-- Unmapped opcode 0x83 (R342). -/
def execUnmapped83 (s : State) : Host.Outcome State Fault Refusal :=
  run seqUnmapped [] s

/-- Unmapped opcode 0x87 (R342). -/
def execUnmapped87 (s : State) : Host.Outcome State Fault Refusal :=
  run seqUnmapped [] s

/-- Unmapped opcode 0x89 (R342). -/
def execUnmapped89 (s : State) : Host.Outcome State Fault Refusal :=
  run seqUnmapped [] s

/-- Unmapped opcode 0x8B (R342). -/
def execUnmapped8B (s : State) : Host.Outcome State Fault Refusal :=
  run seqUnmapped [] s

/-- Unmapped opcode 0x8F (R342). -/
def execUnmapped8F (s : State) : Host.Outcome State Fault Refusal :=
  run seqUnmapped [] s

/-- Unmapped opcode 0x92 (R342). -/
def execUnmapped92 (s : State) : Host.Outcome State Fault Refusal :=
  run seqUnmapped [] s

/-- Unmapped opcode 0x93 (R342). -/
def execUnmapped93 (s : State) : Host.Outcome State Fault Refusal :=
  run seqUnmapped [] s

/-- Unmapped opcode 0x97 (R342). -/
def execUnmapped97 (s : State) : Host.Outcome State Fault Refusal :=
  run seqUnmapped [] s

/-- Unmapped opcode 0x9B (R342). -/
def execUnmapped9B (s : State) : Host.Outcome State Fault Refusal :=
  run seqUnmapped [] s

/-- Unmapped opcode 0x9C (R342). -/
def execUnmapped9C (s : State) : Host.Outcome State Fault Refusal :=
  run seqUnmapped [] s

/-- Unmapped opcode 0x9E (R342). -/
def execUnmapped9E (s : State) : Host.Outcome State Fault Refusal :=
  run seqUnmapped [] s

/-- Unmapped opcode 0x9F (R342). -/
def execUnmapped9F (s : State) : Host.Outcome State Fault Refusal :=
  run seqUnmapped [] s

/-- Unmapped opcode 0xA3 (R342). -/
def execUnmappedA3 (s : State) : Host.Outcome State Fault Refusal :=
  run seqUnmapped [] s

/-- Unmapped opcode 0xA7 (R342). -/
def execUnmappedA7 (s : State) : Host.Outcome State Fault Refusal :=
  run seqUnmapped [] s

/-- Unmapped opcode 0xAB (R342). -/
def execUnmappedAB (s : State) : Host.Outcome State Fault Refusal :=
  run seqUnmapped [] s

/-- Unmapped opcode 0xAF (R342). -/
def execUnmappedAF (s : State) : Host.Outcome State Fault Refusal :=
  run seqUnmapped [] s

/-- Unmapped opcode 0xB2 (R342). -/
def execUnmappedB2 (s : State) : Host.Outcome State Fault Refusal :=
  run seqUnmapped [] s

/-- Unmapped opcode 0xB3 (R342). -/
def execUnmappedB3 (s : State) : Host.Outcome State Fault Refusal :=
  run seqUnmapped [] s

/-- Unmapped opcode 0xB7 (R342). -/
def execUnmappedB7 (s : State) : Host.Outcome State Fault Refusal :=
  run seqUnmapped [] s

/-- Unmapped opcode 0xBB (R342). -/
def execUnmappedBB (s : State) : Host.Outcome State Fault Refusal :=
  run seqUnmapped [] s

/-- Unmapped opcode 0xBF (R342). -/
def execUnmappedBF (s : State) : Host.Outcome State Fault Refusal :=
  run seqUnmapped [] s

/-- Unmapped opcode 0xC2 (R342). -/
def execUnmappedC2 (s : State) : Host.Outcome State Fault Refusal :=
  run seqUnmapped [] s

/-- Unmapped opcode 0xC3 (R342). -/
def execUnmappedC3 (s : State) : Host.Outcome State Fault Refusal :=
  run seqUnmapped [] s

/-- Unmapped opcode 0xC7 (R342). -/
def execUnmappedC7 (s : State) : Host.Outcome State Fault Refusal :=
  run seqUnmapped [] s

/-- Unmapped opcode 0xCB (R342). -/
def execUnmappedCB (s : State) : Host.Outcome State Fault Refusal :=
  run seqUnmapped [] s

/-- Unmapped opcode 0xCF (R342). -/
def execUnmappedCF (s : State) : Host.Outcome State Fault Refusal :=
  run seqUnmapped [] s

/-- Unmapped opcode 0xD2 (R342). -/
def execUnmappedD2 (s : State) : Host.Outcome State Fault Refusal :=
  run seqUnmapped [] s

/-- Unmapped opcode 0xD3 (R342). -/
def execUnmappedD3 (s : State) : Host.Outcome State Fault Refusal :=
  run seqUnmapped [] s

/-- Unmapped opcode 0xD4 (R342). -/
def execUnmappedD4 (s : State) : Host.Outcome State Fault Refusal :=
  run seqUnmapped [] s

/-- Unmapped opcode 0xD7 (R342). -/
def execUnmappedD7 (s : State) : Host.Outcome State Fault Refusal :=
  run seqUnmapped [] s

/-- Unmapped opcode 0xDA (R342). -/
def execUnmappedDA (s : State) : Host.Outcome State Fault Refusal :=
  run seqUnmapped [] s

/-- Unmapped opcode 0xDB (R342). -/
def execUnmappedDB (s : State) : Host.Outcome State Fault Refusal :=
  run seqUnmapped [] s

/-- Unmapped opcode 0xDC (R342). -/
def execUnmappedDC (s : State) : Host.Outcome State Fault Refusal :=
  run seqUnmapped [] s

/-- Unmapped opcode 0xDF (R342). -/
def execUnmappedDF (s : State) : Host.Outcome State Fault Refusal :=
  run seqUnmapped [] s

/-- Unmapped opcode 0xE2 (R342). -/
def execUnmappedE2 (s : State) : Host.Outcome State Fault Refusal :=
  run seqUnmapped [] s

/-- Unmapped opcode 0xE3 (R342). -/
def execUnmappedE3 (s : State) : Host.Outcome State Fault Refusal :=
  run seqUnmapped [] s

/-- Unmapped opcode 0xE7 (R342). -/
def execUnmappedE7 (s : State) : Host.Outcome State Fault Refusal :=
  run seqUnmapped [] s

/-- Unmapped opcode 0xEB (R342). -/
def execUnmappedEB (s : State) : Host.Outcome State Fault Refusal :=
  run seqUnmapped [] s

/-- Unmapped opcode 0xEF (R342). -/
def execUnmappedEF (s : State) : Host.Outcome State Fault Refusal :=
  run seqUnmapped [] s

/-- Unmapped opcode 0xF2 (R342). -/
def execUnmappedF2 (s : State) : Host.Outcome State Fault Refusal :=
  run seqUnmapped [] s

/-- Unmapped opcode 0xF3 (R342). -/
def execUnmappedF3 (s : State) : Host.Outcome State Fault Refusal :=
  run seqUnmapped [] s

/-- Unmapped opcode 0xF4 (R342). -/
def execUnmappedF4 (s : State) : Host.Outcome State Fault Refusal :=
  run seqUnmapped [] s

/-- Unmapped opcode 0xF7 (R342). -/
def execUnmappedF7 (s : State) : Host.Outcome State Fault Refusal :=
  run seqUnmapped [] s

/-- Unmapped opcode 0xFA (R342). -/
def execUnmappedFA (s : State) : Host.Outcome State Fault Refusal :=
  run seqUnmapped [] s

/-- Unmapped opcode 0xFB (R342). -/
def execUnmappedFB (s : State) : Host.Outcome State Fault Refusal :=
  run seqUnmapped [] s

/-- Unmapped opcode 0xFC (R342). -/
def execUnmappedFC (s : State) : Host.Outcome State Fault Refusal :=
  run seqUnmapped [] s

/-- Unmapped opcode 0xFF (R342). -/
def execUnmappedFF (s : State) : Host.Outcome State Fault Refusal :=
  run seqUnmapped [] s

end Sys2Proof.Machine
end

