-- ==== Sys2Proof/Syntax.lean ====
section
/-! DEFINITION. The instructions: one constructor for each row of spec/opcode_table.json (30_encoding.md R123), with the
operand bytes its format takes (R121) as arguments. -/

namespace Sys2Proof

/-- The 151 mapped opcodes, the 105 unmapped ones (R125) and the three pseudo-instructions (R126):
first the rows that take operand bytes, then the other mapped rows, the unmapped ones and the three selectors.
`b1` is the byte at opcode address + 1, `b2` the byte at opcode address + 2. -/
inductive Instr where
  /-- ORA (b1,X), opcode 0x01 (R226). -/
  | oraInx (b1 : Byte)
  /-- ORA b1, opcode 0x05 (R226). -/
  | oraZp (b1 : Byte)
  /-- ASL b1, opcode 0x06 (R250). -/
  | aslZp (b1 : Byte)
  /-- ORA #b1, opcode 0x09 (R226). -/
  | oraImm (b1 : Byte)
  /-- ORA b2:b1, opcode 0x0d (R226). -/
  | oraAbs (b1 b2 : Byte)
  /-- ASL b2:b1, opcode 0x0e (R250). -/
  | aslAbs (b1 b2 : Byte)
  /-- BPL branch offset b1, opcode 0x10 (R271). -/
  | bpl (b1 : Byte)
  /-- ORA (b1),Y, opcode 0x11 (R226). -/
  | oraIny (b1 : Byte)
  /-- ORA b1,X, opcode 0x15 (R226). -/
  | oraZpx (b1 : Byte)
  /-- ASL b1,X, opcode 0x16 (R250). -/
  | aslZpx (b1 : Byte)
  /-- ORA b2:b1,Y, opcode 0x19 (R226). -/
  | oraAby (b1 b2 : Byte)
  /-- ORA b2:b1,X, opcode 0x1d (R226). -/
  | oraAbx (b1 b2 : Byte)
  /-- ASL b2:b1,X, opcode 0x1e (R250). -/
  | aslAbx (b1 b2 : Byte)
  /-- JSR b2:b1, opcode 0x20 (R281). -/
  | jsr (b1 b2 : Byte)
  /-- AND (b1,X), opcode 0x21 (R225). -/
  | andInx (b1 : Byte)
  /-- BIT b1, opcode 0x24 (R231). -/
  | bitZp (b1 : Byte)
  /-- AND b1, opcode 0x25 (R225). -/
  | andZp (b1 : Byte)
  /-- ROL b1, opcode 0x26 (R252). -/
  | rolZp (b1 : Byte)
  /-- AND #b1, opcode 0x29 (R225). -/
  | andImm (b1 : Byte)
  /-- BIT b2:b1, opcode 0x2c (R231). -/
  | bitAbs (b1 b2 : Byte)
  /-- AND b2:b1, opcode 0x2d (R225). -/
  | andAbs (b1 b2 : Byte)
  /-- ROL b2:b1, opcode 0x2e (R252). -/
  | rolAbs (b1 b2 : Byte)
  /-- BMI branch offset b1, opcode 0x30 (R272). -/
  | bmi (b1 : Byte)
  /-- AND (b1),Y, opcode 0x31 (R225). -/
  | andIny (b1 : Byte)
  /-- AND b1,X, opcode 0x35 (R225). -/
  | andZpx (b1 : Byte)
  /-- ROL b1,X, opcode 0x36 (R252). -/
  | rolZpx (b1 : Byte)
  /-- AND b2:b1,Y, opcode 0x39 (R225). -/
  | andAby (b1 b2 : Byte)
  /-- AND b2:b1,X, opcode 0x3d (R225). -/
  | andAbx (b1 b2 : Byte)
  /-- ROL b2:b1,X, opcode 0x3e (R252). -/
  | rolAbx (b1 b2 : Byte)
  /-- EOR (b1,X), opcode 0x41 (R227). -/
  | eorInx (b1 : Byte)
  /-- EOR b1, opcode 0x45 (R227). -/
  | eorZp (b1 : Byte)
  /-- LSR b1, opcode 0x46 (R251). -/
  | lsrZp (b1 : Byte)
  /-- EOR #b1, opcode 0x49 (R227). -/
  | eorImm (b1 : Byte)
  /-- JMP b2:b1, opcode 0x4c (R279). -/
  | jmpAbs (b1 b2 : Byte)
  /-- EOR b2:b1, opcode 0x4d (R227). -/
  | eorAbs (b1 b2 : Byte)
  /-- LSR b2:b1, opcode 0x4e (R251). -/
  | lsrAbs (b1 b2 : Byte)
  /-- BVC branch offset b1, opcode 0x50 (R273). -/
  | bvc (b1 : Byte)
  /-- EOR (b1),Y, opcode 0x51 (R227). -/
  | eorIny (b1 : Byte)
  /-- EOR b1,X, opcode 0x55 (R227). -/
  | eorZpx (b1 : Byte)
  /-- LSR b1,X, opcode 0x56 (R251). -/
  | lsrZpx (b1 : Byte)
  /-- EOR b2:b1,Y, opcode 0x59 (R227). -/
  | eorAby (b1 b2 : Byte)
  /-- EOR b2:b1,X, opcode 0x5d (R227). -/
  | eorAbx (b1 b2 : Byte)
  /-- LSR b2:b1,X, opcode 0x5e (R251). -/
  | lsrAbx (b1 b2 : Byte)
  /-- ADC (b1,X), opcode 0x61 (R221). -/
  | adcInx (b1 : Byte)
  /-- ADC b1, opcode 0x65 (R221). -/
  | adcZp (b1 : Byte)
  /-- ROR b1, opcode 0x66 (R253). -/
  | rorZp (b1 : Byte)
  /-- ADC #b1, opcode 0x69 (R221). -/
  | adcImm (b1 : Byte)
  /-- JMP (b2:b1), opcode 0x6c (R280). -/
  | jmpInd (b1 b2 : Byte)
  /-- ADC b2:b1, opcode 0x6d (R221). -/
  | adcAbs (b1 b2 : Byte)
  /-- ROR b2:b1, opcode 0x6e (R253). -/
  | rorAbs (b1 b2 : Byte)
  /-- BVS branch offset b1, opcode 0x70 (R274). -/
  | bvs (b1 : Byte)
  /-- ADC (b1),Y, opcode 0x71 (R221). -/
  | adcIny (b1 : Byte)
  /-- ADC b1,X, opcode 0x75 (R221). -/
  | adcZpx (b1 : Byte)
  /-- ROR b1,X, opcode 0x76 (R253). -/
  | rorZpx (b1 : Byte)
  /-- ADC b2:b1,Y, opcode 0x79 (R221). -/
  | adcAby (b1 b2 : Byte)
  /-- ADC b2:b1,X, opcode 0x7d (R221). -/
  | adcAbx (b1 b2 : Byte)
  /-- ROR b2:b1,X, opcode 0x7e (R253). -/
  | rorAbx (b1 b2 : Byte)
  /-- STA (b1,X), opcode 0x81 (R203). -/
  | staInx (b1 : Byte)
  /-- STY b1, opcode 0x84 (R205). -/
  | styZp (b1 : Byte)
  /-- STA b1, opcode 0x85 (R203). -/
  | staZp (b1 : Byte)
  /-- STX b1, opcode 0x86 (R204). -/
  | stxZp (b1 : Byte)
  /-- STY b2:b1, opcode 0x8c (R205). -/
  | styAbs (b1 b2 : Byte)
  /-- STA b2:b1, opcode 0x8d (R203). -/
  | staAbs (b1 b2 : Byte)
  /-- STX b2:b1, opcode 0x8e (R204). -/
  | stxAbs (b1 b2 : Byte)
  /-- BCC branch offset b1, opcode 0x90 (R275). -/
  | bcc (b1 : Byte)
  /-- STA (b1),Y, opcode 0x91 (R203). -/
  | staIny (b1 : Byte)
  /-- STY b1,X, opcode 0x94 (R205). -/
  | styZpx (b1 : Byte)
  /-- STA b1,X, opcode 0x95 (R203). -/
  | staZpx (b1 : Byte)
  /-- STX b1,Y, opcode 0x96 (R204). -/
  | stxZpy (b1 : Byte)
  /-- STA b2:b1,Y, opcode 0x99 (R203). -/
  | staAby (b1 b2 : Byte)
  /-- STA b2:b1,X, opcode 0x9d (R203). -/
  | staAbx (b1 b2 : Byte)
  /-- LDY #b1, opcode 0xa0 (R202). -/
  | ldyImm (b1 : Byte)
  /-- LDA (b1,X), opcode 0xa1 (R200). -/
  | ldaInx (b1 : Byte)
  /-- LDX #b1, opcode 0xa2 (R201). -/
  | ldxImm (b1 : Byte)
  /-- LDY b1, opcode 0xa4 (R202). -/
  | ldyZp (b1 : Byte)
  /-- LDA b1, opcode 0xa5 (R200). -/
  | ldaZp (b1 : Byte)
  /-- LDX b1, opcode 0xa6 (R201). -/
  | ldxZp (b1 : Byte)
  /-- LDA #b1, opcode 0xa9 (R200). -/
  | ldaImm (b1 : Byte)
  /-- LDY b2:b1, opcode 0xac (R202). -/
  | ldyAbs (b1 b2 : Byte)
  /-- LDA b2:b1, opcode 0xad (R200). -/
  | ldaAbs (b1 b2 : Byte)
  /-- LDX b2:b1, opcode 0xae (R201). -/
  | ldxAbs (b1 b2 : Byte)
  /-- BCS branch offset b1, opcode 0xb0 (R276). -/
  | bcs (b1 : Byte)
  /-- LDA (b1),Y, opcode 0xb1 (R200). -/
  | ldaIny (b1 : Byte)
  /-- LDY b1,X, opcode 0xb4 (R202). -/
  | ldyZpx (b1 : Byte)
  /-- LDA b1,X, opcode 0xb5 (R200). -/
  | ldaZpx (b1 : Byte)
  /-- LDX b1,Y, opcode 0xb6 (R201). -/
  | ldxZpy (b1 : Byte)
  /-- LDA b2:b1,Y, opcode 0xb9 (R200). -/
  | ldaAby (b1 b2 : Byte)
  /-- LDY b2:b1,X, opcode 0xbc (R202). -/
  | ldyAbx (b1 b2 : Byte)
  /-- LDA b2:b1,X, opcode 0xbd (R200). -/
  | ldaAbx (b1 b2 : Byte)
  /-- LDX b2:b1,Y, opcode 0xbe (R201). -/
  | ldxAby (b1 b2 : Byte)
  /-- CPY #b1, opcode 0xc0 (R230). -/
  | cpyImm (b1 : Byte)
  /-- CMP (b1,X), opcode 0xc1 (R228). -/
  | cmpInx (b1 : Byte)
  /-- CPY b1, opcode 0xc4 (R230). -/
  | cpyZp (b1 : Byte)
  /-- CMP b1, opcode 0xc5 (R228). -/
  | cmpZp (b1 : Byte)
  /-- DEC b1, opcode 0xc6 (R255). -/
  | decZp (b1 : Byte)
  /-- CMP #b1, opcode 0xc9 (R228). -/
  | cmpImm (b1 : Byte)
  /-- CPY b2:b1, opcode 0xcc (R230). -/
  | cpyAbs (b1 b2 : Byte)
  /-- CMP b2:b1, opcode 0xcd (R228). -/
  | cmpAbs (b1 b2 : Byte)
  /-- DEC b2:b1, opcode 0xce (R255). -/
  | decAbs (b1 b2 : Byte)
  /-- BNE branch offset b1, opcode 0xd0 (R277). -/
  | bne (b1 : Byte)
  /-- CMP (b1),Y, opcode 0xd1 (R228). -/
  | cmpIny (b1 : Byte)
  /-- CMP b1,X, opcode 0xd5 (R228). -/
  | cmpZpx (b1 : Byte)
  /-- DEC b1,X, opcode 0xd6 (R255). -/
  | decZpx (b1 : Byte)
  /-- CMP b2:b1,Y, opcode 0xd9 (R228). -/
  | cmpAby (b1 b2 : Byte)
  /-- CMP b2:b1,X, opcode 0xdd (R228). -/
  | cmpAbx (b1 b2 : Byte)
  /-- DEC b2:b1,X, opcode 0xde (R255). -/
  | decAbx (b1 b2 : Byte)
  /-- CPX #b1, opcode 0xe0 (R229). -/
  | cpxImm (b1 : Byte)
  /-- SBC (b1,X), opcode 0xe1 (R222). -/
  | sbcInx (b1 : Byte)
  /-- CPX b1, opcode 0xe4 (R229). -/
  | cpxZp (b1 : Byte)
  /-- SBC b1, opcode 0xe5 (R222). -/
  | sbcZp (b1 : Byte)
  /-- INC b1, opcode 0xe6 (R254). -/
  | incZp (b1 : Byte)
  /-- SBC #b1, opcode 0xe9 (R222). -/
  | sbcImm (b1 : Byte)
  /-- CPX b2:b1, opcode 0xec (R229). -/
  | cpxAbs (b1 b2 : Byte)
  /-- SBC b2:b1, opcode 0xed (R222). -/
  | sbcAbs (b1 b2 : Byte)
  /-- INC b2:b1, opcode 0xee (R254). -/
  | incAbs (b1 b2 : Byte)
  /-- BEQ branch offset b1, opcode 0xf0 (R278). -/
  | beq (b1 : Byte)
  /-- SBC (b1),Y, opcode 0xf1 (R222). -/
  | sbcIny (b1 : Byte)
  /-- SBC b1,X, opcode 0xf5 (R222). -/
  | sbcZpx (b1 : Byte)
  /-- INC b1,X, opcode 0xf6 (R254). -/
  | incZpx (b1 : Byte)
  /-- SBC b2:b1,Y, opcode 0xf9 (R222). -/
  | sbcAby (b1 b2 : Byte)
  /-- SBC b2:b1,X, opcode 0xfd (R222). -/
  | sbcAbx (b1 b2 : Byte)
  /-- INC b2:b1,X, opcode 0xfe (R254). -/
  | incAbx (b1 b2 : Byte)
  /-- BRK, opcode 0x00 (R340). -/
  | brk
  /-- PHP, opcode 0x08 (R301). -/
  | php
  /-- ASL A, opcode 0x0a (R250). -/
  | aslAcc
  /-- CLC, opcode 0x18 (R304). -/
  | clc
  /-- PLP, opcode 0x28 (R303). -/
  | plp
  /-- ROL A, opcode 0x2a (R252). -/
  | rolAcc
  /-- SEC, opcode 0x38 (R305). -/
  | sec
  /-- RTI, opcode 0x40 (R341). -/
  | rti
  /-- PHA, opcode 0x48 (R300). -/
  | pha
  /-- LSR A, opcode 0x4a (R251). -/
  | lsrAcc
  /-- CLI, opcode 0x58 (R306). -/
  | cli
  /-- RTS, opcode 0x60 (R282). -/
  | rts
  /-- PLA, opcode 0x68 (R302). -/
  | pla
  /-- ROR A, opcode 0x6a (R253). -/
  | rorAcc
  /-- SEI, opcode 0x78 (R307). -/
  | sei
  /-- DEY, opcode 0x88 (R259). -/
  | dey
  /-- TXA, opcode 0x8a (R314). -/
  | txa
  /-- TYA, opcode 0x98 (R316). -/
  | tya
  /-- TXS, opcode 0x9a (R315). -/
  | txs
  /-- TAY, opcode 0xa8 (R312). -/
  | tay
  /-- TAX, opcode 0xaa (R311). -/
  | tax
  /-- CLV, opcode 0xb8 (R308). -/
  | clv
  /-- TSX, opcode 0xba (R313). -/
  | tsx
  /-- INY, opcode 0xc8 (R257). -/
  | iny
  /-- DEX, opcode 0xca (R258). -/
  | dex
  /-- CLD, opcode 0xd8 (R309). -/
  | cld
  /-- INX, opcode 0xe8 (R256). -/
  | inx
  /-- NOP, opcode 0xea (R317). -/
  | nop
  /-- SED, opcode 0xf8 (R310). -/
  | sed
  | unmapped02
  | unmapped03
  | unmapped04
  | unmapped07
  | unmapped0B
  | unmapped0C
  | unmapped0F
  | unmapped12
  | unmapped13
  | unmapped14
  | unmapped17
  | unmapped1A
  | unmapped1B
  | unmapped1C
  | unmapped1F
  | unmapped22
  | unmapped23
  | unmapped27
  | unmapped2B
  | unmapped2F
  | unmapped32
  | unmapped33
  | unmapped34
  | unmapped37
  | unmapped3A
  | unmapped3B
  | unmapped3C
  | unmapped3F
  | unmapped42
  | unmapped43
  | unmapped44
  | unmapped47
  | unmapped4B
  | unmapped4F
  | unmapped52
  | unmapped53
  | unmapped54
  | unmapped57
  | unmapped5A
  | unmapped5B
  | unmapped5C
  | unmapped5F
  | unmapped62
  | unmapped63
  | unmapped64
  | unmapped67
  | unmapped6B
  | unmapped6F
  | unmapped72
  | unmapped73
  | unmapped74
  | unmapped77
  | unmapped7A
  | unmapped7B
  | unmapped7C
  | unmapped7F
  | unmapped80
  | unmapped82
  | unmapped83
  | unmapped87
  | unmapped89
  | unmapped8B
  | unmapped8F
  | unmapped92
  | unmapped93
  | unmapped97
  | unmapped9B
  | unmapped9C
  | unmapped9E
  | unmapped9F
  | unmappedA3
  | unmappedA7
  | unmappedAB
  | unmappedAF
  | unmappedB2
  | unmappedB3
  | unmappedB7
  | unmappedBB
  | unmappedBF
  | unmappedC2
  | unmappedC3
  | unmappedC7
  | unmappedCB
  | unmappedCF
  | unmappedD2
  | unmappedD3
  | unmappedD4
  | unmappedD7
  | unmappedDA
  | unmappedDB
  | unmappedDC
  | unmappedDF
  | unmappedE2
  | unmappedE3
  | unmappedE7
  | unmappedEB
  | unmappedEF
  | unmappedF2
  | unmappedF3
  | unmappedF4
  | unmappedF7
  | unmappedFA
  | unmappedFB
  | unmappedFC
  | unmappedFF
  /-- RESET pseudo-instruction, selector 0x100 (R365). -/
  | reset
  /-- NMI pseudo-instruction, selector 0x101 (R366). -/
  | nmi
  /-- IRQ pseudo-instruction, selector 0x102 (R367). -/
  | irq
deriving DecidableEq, Repr

end Sys2Proof
end

