-- ==== Sys2Proof/Machine/Dispatch.lean ====
section
/-! DEFINITION. The meaning of every instruction and pseudo-instruction: one arm per constructor of `Instr`. -/

namespace Sys2Proof.Machine

def exec (i : Instr) (s : State) : Host.Outcome State Fault Refusal :=
  match i with
  | .oraInx b1 => Sys2Proof.Machine.execOraInx b1 s
  | .oraZp b1 => Sys2Proof.Machine.execOraZp b1 s
  | .aslZp b1 => Sys2Proof.Machine.execAslZp b1 s
  | .oraImm b1 => Sys2Proof.Machine.execOraImm b1 s
  | .oraAbs b1 b2 => Sys2Proof.Machine.execOraAbs b1 b2 s
  | .aslAbs b1 b2 => Sys2Proof.Machine.execAslAbs b1 b2 s
  | .bpl b1 => Sys2Proof.Machine.execBpl b1 s
  | .oraIny b1 => Sys2Proof.Machine.execOraIny b1 s
  | .oraZpx b1 => Sys2Proof.Machine.execOraZpx b1 s
  | .aslZpx b1 => Sys2Proof.Machine.execAslZpx b1 s
  | .oraAby b1 b2 => Sys2Proof.Machine.execOraAby b1 b2 s
  | .oraAbx b1 b2 => Sys2Proof.Machine.execOraAbx b1 b2 s
  | .aslAbx b1 b2 => Sys2Proof.Machine.execAslAbx b1 b2 s
  | .jsr b1 b2 => Sys2Proof.Machine.execJsr b1 b2 s
  | .andInx b1 => Sys2Proof.Machine.execAndInx b1 s
  | .bitZp b1 => Sys2Proof.Machine.execBitZp b1 s
  | .andZp b1 => Sys2Proof.Machine.execAndZp b1 s
  | .rolZp b1 => Sys2Proof.Machine.execRolZp b1 s
  | .andImm b1 => Sys2Proof.Machine.execAndImm b1 s
  | .bitAbs b1 b2 => Sys2Proof.Machine.execBitAbs b1 b2 s
  | .andAbs b1 b2 => Sys2Proof.Machine.execAndAbs b1 b2 s
  | .rolAbs b1 b2 => Sys2Proof.Machine.execRolAbs b1 b2 s
  | .bmi b1 => Sys2Proof.Machine.execBmi b1 s
  | .andIny b1 => Sys2Proof.Machine.execAndIny b1 s
  | .andZpx b1 => Sys2Proof.Machine.execAndZpx b1 s
  | .rolZpx b1 => Sys2Proof.Machine.execRolZpx b1 s
  | .andAby b1 b2 => Sys2Proof.Machine.execAndAby b1 b2 s
  | .andAbx b1 b2 => Sys2Proof.Machine.execAndAbx b1 b2 s
  | .rolAbx b1 b2 => Sys2Proof.Machine.execRolAbx b1 b2 s
  | .eorInx b1 => Sys2Proof.Machine.execEorInx b1 s
  | .eorZp b1 => Sys2Proof.Machine.execEorZp b1 s
  | .lsrZp b1 => Sys2Proof.Machine.execLsrZp b1 s
  | .eorImm b1 => Sys2Proof.Machine.execEorImm b1 s
  | .jmpAbs b1 b2 => Sys2Proof.Machine.execJmpAbs b1 b2 s
  | .eorAbs b1 b2 => Sys2Proof.Machine.execEorAbs b1 b2 s
  | .lsrAbs b1 b2 => Sys2Proof.Machine.execLsrAbs b1 b2 s
  | .bvc b1 => Sys2Proof.Machine.execBvc b1 s
  | .eorIny b1 => Sys2Proof.Machine.execEorIny b1 s
  | .eorZpx b1 => Sys2Proof.Machine.execEorZpx b1 s
  | .lsrZpx b1 => Sys2Proof.Machine.execLsrZpx b1 s
  | .eorAby b1 b2 => Sys2Proof.Machine.execEorAby b1 b2 s
  | .eorAbx b1 b2 => Sys2Proof.Machine.execEorAbx b1 b2 s
  | .lsrAbx b1 b2 => Sys2Proof.Machine.execLsrAbx b1 b2 s
  | .adcInx b1 => Sys2Proof.Machine.execAdcInx b1 s
  | .adcZp b1 => Sys2Proof.Machine.execAdcZp b1 s
  | .rorZp b1 => Sys2Proof.Machine.execRorZp b1 s
  | .adcImm b1 => Sys2Proof.Machine.execAdcImm b1 s
  | .jmpInd b1 b2 => Sys2Proof.Machine.execJmpInd b1 b2 s
  | .adcAbs b1 b2 => Sys2Proof.Machine.execAdcAbs b1 b2 s
  | .rorAbs b1 b2 => Sys2Proof.Machine.execRorAbs b1 b2 s
  | .bvs b1 => Sys2Proof.Machine.execBvs b1 s
  | .adcIny b1 => Sys2Proof.Machine.execAdcIny b1 s
  | .adcZpx b1 => Sys2Proof.Machine.execAdcZpx b1 s
  | .rorZpx b1 => Sys2Proof.Machine.execRorZpx b1 s
  | .adcAby b1 b2 => Sys2Proof.Machine.execAdcAby b1 b2 s
  | .adcAbx b1 b2 => Sys2Proof.Machine.execAdcAbx b1 b2 s
  | .rorAbx b1 b2 => Sys2Proof.Machine.execRorAbx b1 b2 s
  | .staInx b1 => Sys2Proof.Machine.execStaInx b1 s
  | .styZp b1 => Sys2Proof.Machine.execStyZp b1 s
  | .staZp b1 => Sys2Proof.Machine.execStaZp b1 s
  | .stxZp b1 => Sys2Proof.Machine.execStxZp b1 s
  | .styAbs b1 b2 => Sys2Proof.Machine.execStyAbs b1 b2 s
  | .staAbs b1 b2 => Sys2Proof.Machine.execStaAbs b1 b2 s
  | .stxAbs b1 b2 => Sys2Proof.Machine.execStxAbs b1 b2 s
  | .bcc b1 => Sys2Proof.Machine.execBcc b1 s
  | .staIny b1 => Sys2Proof.Machine.execStaIny b1 s
  | .styZpx b1 => Sys2Proof.Machine.execStyZpx b1 s
  | .staZpx b1 => Sys2Proof.Machine.execStaZpx b1 s
  | .stxZpy b1 => Sys2Proof.Machine.execStxZpy b1 s
  | .staAby b1 b2 => Sys2Proof.Machine.execStaAby b1 b2 s
  | .staAbx b1 b2 => Sys2Proof.Machine.execStaAbx b1 b2 s
  | .ldyImm b1 => Sys2Proof.Machine.execLdyImm b1 s
  | .ldaInx b1 => Sys2Proof.Machine.execLdaInx b1 s
  | .ldxImm b1 => Sys2Proof.Machine.execLdxImm b1 s
  | .ldyZp b1 => Sys2Proof.Machine.execLdyZp b1 s
  | .ldaZp b1 => Sys2Proof.Machine.execLdaZp b1 s
  | .ldxZp b1 => Sys2Proof.Machine.execLdxZp b1 s
  | .ldaImm b1 => Sys2Proof.Machine.execLdaImm b1 s
  | .ldyAbs b1 b2 => Sys2Proof.Machine.execLdyAbs b1 b2 s
  | .ldaAbs b1 b2 => Sys2Proof.Machine.execLdaAbs b1 b2 s
  | .ldxAbs b1 b2 => Sys2Proof.Machine.execLdxAbs b1 b2 s
  | .bcs b1 => Sys2Proof.Machine.execBcs b1 s
  | .ldaIny b1 => Sys2Proof.Machine.execLdaIny b1 s
  | .ldyZpx b1 => Sys2Proof.Machine.execLdyZpx b1 s
  | .ldaZpx b1 => Sys2Proof.Machine.execLdaZpx b1 s
  | .ldxZpy b1 => Sys2Proof.Machine.execLdxZpy b1 s
  | .ldaAby b1 b2 => Sys2Proof.Machine.execLdaAby b1 b2 s
  | .ldyAbx b1 b2 => Sys2Proof.Machine.execLdyAbx b1 b2 s
  | .ldaAbx b1 b2 => Sys2Proof.Machine.execLdaAbx b1 b2 s
  | .ldxAby b1 b2 => Sys2Proof.Machine.execLdxAby b1 b2 s
  | .cpyImm b1 => Sys2Proof.Machine.execCpyImm b1 s
  | .cmpInx b1 => Sys2Proof.Machine.execCmpInx b1 s
  | .cpyZp b1 => Sys2Proof.Machine.execCpyZp b1 s
  | .cmpZp b1 => Sys2Proof.Machine.execCmpZp b1 s
  | .decZp b1 => Sys2Proof.Machine.execDecZp b1 s
  | .cmpImm b1 => Sys2Proof.Machine.execCmpImm b1 s
  | .cpyAbs b1 b2 => Sys2Proof.Machine.execCpyAbs b1 b2 s
  | .cmpAbs b1 b2 => Sys2Proof.Machine.execCmpAbs b1 b2 s
  | .decAbs b1 b2 => Sys2Proof.Machine.execDecAbs b1 b2 s
  | .bne b1 => Sys2Proof.Machine.execBne b1 s
  | .cmpIny b1 => Sys2Proof.Machine.execCmpIny b1 s
  | .cmpZpx b1 => Sys2Proof.Machine.execCmpZpx b1 s
  | .decZpx b1 => Sys2Proof.Machine.execDecZpx b1 s
  | .cmpAby b1 b2 => Sys2Proof.Machine.execCmpAby b1 b2 s
  | .cmpAbx b1 b2 => Sys2Proof.Machine.execCmpAbx b1 b2 s
  | .decAbx b1 b2 => Sys2Proof.Machine.execDecAbx b1 b2 s
  | .cpxImm b1 => Sys2Proof.Machine.execCpxImm b1 s
  | .sbcInx b1 => Sys2Proof.Machine.execSbcInx b1 s
  | .cpxZp b1 => Sys2Proof.Machine.execCpxZp b1 s
  | .sbcZp b1 => Sys2Proof.Machine.execSbcZp b1 s
  | .incZp b1 => Sys2Proof.Machine.execIncZp b1 s
  | .sbcImm b1 => Sys2Proof.Machine.execSbcImm b1 s
  | .cpxAbs b1 b2 => Sys2Proof.Machine.execCpxAbs b1 b2 s
  | .sbcAbs b1 b2 => Sys2Proof.Machine.execSbcAbs b1 b2 s
  | .incAbs b1 b2 => Sys2Proof.Machine.execIncAbs b1 b2 s
  | .beq b1 => Sys2Proof.Machine.execBeq b1 s
  | .sbcIny b1 => Sys2Proof.Machine.execSbcIny b1 s
  | .sbcZpx b1 => Sys2Proof.Machine.execSbcZpx b1 s
  | .incZpx b1 => Sys2Proof.Machine.execIncZpx b1 s
  | .sbcAby b1 b2 => Sys2Proof.Machine.execSbcAby b1 b2 s
  | .sbcAbx b1 b2 => Sys2Proof.Machine.execSbcAbx b1 b2 s
  | .incAbx b1 b2 => Sys2Proof.Machine.execIncAbx b1 b2 s
  | .brk => Sys2Proof.Machine.execBrk s
  | .php => Sys2Proof.Machine.execPhp s
  | .aslAcc => Sys2Proof.Machine.execAslAcc s
  | .clc => Sys2Proof.Machine.execClc s
  | .plp => Sys2Proof.Machine.execPlp s
  | .rolAcc => Sys2Proof.Machine.execRolAcc s
  | .sec => Sys2Proof.Machine.execSec s
  | .rti => Sys2Proof.Machine.execRti s
  | .pha => Sys2Proof.Machine.execPha s
  | .lsrAcc => Sys2Proof.Machine.execLsrAcc s
  | .cli => Sys2Proof.Machine.execCli s
  | .rts => Sys2Proof.Machine.execRts s
  | .pla => Sys2Proof.Machine.execPla s
  | .rorAcc => Sys2Proof.Machine.execRorAcc s
  | .sei => Sys2Proof.Machine.execSei s
  | .dey => Sys2Proof.Machine.execDey s
  | .txa => Sys2Proof.Machine.execTxa s
  | .tya => Sys2Proof.Machine.execTya s
  | .txs => Sys2Proof.Machine.execTxs s
  | .tay => Sys2Proof.Machine.execTay s
  | .tax => Sys2Proof.Machine.execTax s
  | .clv => Sys2Proof.Machine.execClv s
  | .tsx => Sys2Proof.Machine.execTsx s
  | .iny => Sys2Proof.Machine.execIny s
  | .dex => Sys2Proof.Machine.execDex s
  | .cld => Sys2Proof.Machine.execCld s
  | .inx => Sys2Proof.Machine.execInx s
  | .nop => Sys2Proof.Machine.execNop s
  | .sed => Sys2Proof.Machine.execSed s
  | .unmapped02 => Sys2Proof.Machine.execUnmapped02 s
  | .unmapped03 => Sys2Proof.Machine.execUnmapped03 s
  | .unmapped04 => Sys2Proof.Machine.execUnmapped04 s
  | .unmapped07 => Sys2Proof.Machine.execUnmapped07 s
  | .unmapped0B => Sys2Proof.Machine.execUnmapped0B s
  | .unmapped0C => Sys2Proof.Machine.execUnmapped0C s
  | .unmapped0F => Sys2Proof.Machine.execUnmapped0F s
  | .unmapped12 => Sys2Proof.Machine.execUnmapped12 s
  | .unmapped13 => Sys2Proof.Machine.execUnmapped13 s
  | .unmapped14 => Sys2Proof.Machine.execUnmapped14 s
  | .unmapped17 => Sys2Proof.Machine.execUnmapped17 s
  | .unmapped1A => Sys2Proof.Machine.execUnmapped1A s
  | .unmapped1B => Sys2Proof.Machine.execUnmapped1B s
  | .unmapped1C => Sys2Proof.Machine.execUnmapped1C s
  | .unmapped1F => Sys2Proof.Machine.execUnmapped1F s
  | .unmapped22 => Sys2Proof.Machine.execUnmapped22 s
  | .unmapped23 => Sys2Proof.Machine.execUnmapped23 s
  | .unmapped27 => Sys2Proof.Machine.execUnmapped27 s
  | .unmapped2B => Sys2Proof.Machine.execUnmapped2B s
  | .unmapped2F => Sys2Proof.Machine.execUnmapped2F s
  | .unmapped32 => Sys2Proof.Machine.execUnmapped32 s
  | .unmapped33 => Sys2Proof.Machine.execUnmapped33 s
  | .unmapped34 => Sys2Proof.Machine.execUnmapped34 s
  | .unmapped37 => Sys2Proof.Machine.execUnmapped37 s
  | .unmapped3A => Sys2Proof.Machine.execUnmapped3A s
  | .unmapped3B => Sys2Proof.Machine.execUnmapped3B s
  | .unmapped3C => Sys2Proof.Machine.execUnmapped3C s
  | .unmapped3F => Sys2Proof.Machine.execUnmapped3F s
  | .unmapped42 => Sys2Proof.Machine.execUnmapped42 s
  | .unmapped43 => Sys2Proof.Machine.execUnmapped43 s
  | .unmapped44 => Sys2Proof.Machine.execUnmapped44 s
  | .unmapped47 => Sys2Proof.Machine.execUnmapped47 s
  | .unmapped4B => Sys2Proof.Machine.execUnmapped4B s
  | .unmapped4F => Sys2Proof.Machine.execUnmapped4F s
  | .unmapped52 => Sys2Proof.Machine.execUnmapped52 s
  | .unmapped53 => Sys2Proof.Machine.execUnmapped53 s
  | .unmapped54 => Sys2Proof.Machine.execUnmapped54 s
  | .unmapped57 => Sys2Proof.Machine.execUnmapped57 s
  | .unmapped5A => Sys2Proof.Machine.execUnmapped5A s
  | .unmapped5B => Sys2Proof.Machine.execUnmapped5B s
  | .unmapped5C => Sys2Proof.Machine.execUnmapped5C s
  | .unmapped5F => Sys2Proof.Machine.execUnmapped5F s
  | .unmapped62 => Sys2Proof.Machine.execUnmapped62 s
  | .unmapped63 => Sys2Proof.Machine.execUnmapped63 s
  | .unmapped64 => Sys2Proof.Machine.execUnmapped64 s
  | .unmapped67 => Sys2Proof.Machine.execUnmapped67 s
  | .unmapped6B => Sys2Proof.Machine.execUnmapped6B s
  | .unmapped6F => Sys2Proof.Machine.execUnmapped6F s
  | .unmapped72 => Sys2Proof.Machine.execUnmapped72 s
  | .unmapped73 => Sys2Proof.Machine.execUnmapped73 s
  | .unmapped74 => Sys2Proof.Machine.execUnmapped74 s
  | .unmapped77 => Sys2Proof.Machine.execUnmapped77 s
  | .unmapped7A => Sys2Proof.Machine.execUnmapped7A s
  | .unmapped7B => Sys2Proof.Machine.execUnmapped7B s
  | .unmapped7C => Sys2Proof.Machine.execUnmapped7C s
  | .unmapped7F => Sys2Proof.Machine.execUnmapped7F s
  | .unmapped80 => Sys2Proof.Machine.execUnmapped80 s
  | .unmapped82 => Sys2Proof.Machine.execUnmapped82 s
  | .unmapped83 => Sys2Proof.Machine.execUnmapped83 s
  | .unmapped87 => Sys2Proof.Machine.execUnmapped87 s
  | .unmapped89 => Sys2Proof.Machine.execUnmapped89 s
  | .unmapped8B => Sys2Proof.Machine.execUnmapped8B s
  | .unmapped8F => Sys2Proof.Machine.execUnmapped8F s
  | .unmapped92 => Sys2Proof.Machine.execUnmapped92 s
  | .unmapped93 => Sys2Proof.Machine.execUnmapped93 s
  | .unmapped97 => Sys2Proof.Machine.execUnmapped97 s
  | .unmapped9B => Sys2Proof.Machine.execUnmapped9B s
  | .unmapped9C => Sys2Proof.Machine.execUnmapped9C s
  | .unmapped9E => Sys2Proof.Machine.execUnmapped9E s
  | .unmapped9F => Sys2Proof.Machine.execUnmapped9F s
  | .unmappedA3 => Sys2Proof.Machine.execUnmappedA3 s
  | .unmappedA7 => Sys2Proof.Machine.execUnmappedA7 s
  | .unmappedAB => Sys2Proof.Machine.execUnmappedAB s
  | .unmappedAF => Sys2Proof.Machine.execUnmappedAF s
  | .unmappedB2 => Sys2Proof.Machine.execUnmappedB2 s
  | .unmappedB3 => Sys2Proof.Machine.execUnmappedB3 s
  | .unmappedB7 => Sys2Proof.Machine.execUnmappedB7 s
  | .unmappedBB => Sys2Proof.Machine.execUnmappedBB s
  | .unmappedBF => Sys2Proof.Machine.execUnmappedBF s
  | .unmappedC2 => Sys2Proof.Machine.execUnmappedC2 s
  | .unmappedC3 => Sys2Proof.Machine.execUnmappedC3 s
  | .unmappedC7 => Sys2Proof.Machine.execUnmappedC7 s
  | .unmappedCB => Sys2Proof.Machine.execUnmappedCB s
  | .unmappedCF => Sys2Proof.Machine.execUnmappedCF s
  | .unmappedD2 => Sys2Proof.Machine.execUnmappedD2 s
  | .unmappedD3 => Sys2Proof.Machine.execUnmappedD3 s
  | .unmappedD4 => Sys2Proof.Machine.execUnmappedD4 s
  | .unmappedD7 => Sys2Proof.Machine.execUnmappedD7 s
  | .unmappedDA => Sys2Proof.Machine.execUnmappedDA s
  | .unmappedDB => Sys2Proof.Machine.execUnmappedDB s
  | .unmappedDC => Sys2Proof.Machine.execUnmappedDC s
  | .unmappedDF => Sys2Proof.Machine.execUnmappedDF s
  | .unmappedE2 => Sys2Proof.Machine.execUnmappedE2 s
  | .unmappedE3 => Sys2Proof.Machine.execUnmappedE3 s
  | .unmappedE7 => Sys2Proof.Machine.execUnmappedE7 s
  | .unmappedEB => Sys2Proof.Machine.execUnmappedEB s
  | .unmappedEF => Sys2Proof.Machine.execUnmappedEF s
  | .unmappedF2 => Sys2Proof.Machine.execUnmappedF2 s
  | .unmappedF3 => Sys2Proof.Machine.execUnmappedF3 s
  | .unmappedF4 => Sys2Proof.Machine.execUnmappedF4 s
  | .unmappedF7 => Sys2Proof.Machine.execUnmappedF7 s
  | .unmappedFA => Sys2Proof.Machine.execUnmappedFA s
  | .unmappedFB => Sys2Proof.Machine.execUnmappedFB s
  | .unmappedFC => Sys2Proof.Machine.execUnmappedFC s
  | .unmappedFF => Sys2Proof.Machine.execUnmappedFF s
  | .reset => Sys2Proof.Machine.execReset s
  | .nmi => Sys2Proof.Machine.execNmi s
  | .irq => Sys2Proof.Machine.execIrq s

end Sys2Proof.Machine
end

