-- ==== Sys2Proof/Decode.lean ====
section
/-! DEFINITION. Decoding (30_encoding.md R120 to R126), written row by row from the opcode map of R123, the selector of
10_state.md R44, and after them the encoder. -/

namespace Sys2Proof

/-- Row 0x of the opcode map of R123; `lo` is the low nibble of the opcode. -/
def decodeRow0 (lo : Nat) (b1 b2 : Byte) : Instr :=
  match lo with
  | 0x0 => .brk
  | 0x1 => .oraInx b1
  | 0x2 => .unmapped02
  | 0x3 => .unmapped03
  | 0x4 => .unmapped04
  | 0x5 => .oraZp b1
  | 0x6 => .aslZp b1
  | 0x7 => .unmapped07
  | 0x8 => .php
  | 0x9 => .oraImm b1
  | 0xA => .aslAcc
  | 0xB => .unmapped0B
  | 0xC => .unmapped0C
  | 0xD => .oraAbs b1 b2
  | 0xE => .aslAbs b1 b2
  | _ => .unmapped0F

/-- Row 1x of the opcode map of R123; `lo` is the low nibble of the opcode. -/
def decodeRow1 (lo : Nat) (b1 b2 : Byte) : Instr :=
  match lo with
  | 0x0 => .bpl b1
  | 0x1 => .oraIny b1
  | 0x2 => .unmapped12
  | 0x3 => .unmapped13
  | 0x4 => .unmapped14
  | 0x5 => .oraZpx b1
  | 0x6 => .aslZpx b1
  | 0x7 => .unmapped17
  | 0x8 => .clc
  | 0x9 => .oraAby b1 b2
  | 0xA => .unmapped1A
  | 0xB => .unmapped1B
  | 0xC => .unmapped1C
  | 0xD => .oraAbx b1 b2
  | 0xE => .aslAbx b1 b2
  | _ => .unmapped1F

/-- Row 2x of the opcode map of R123; `lo` is the low nibble of the opcode. -/
def decodeRow2 (lo : Nat) (b1 b2 : Byte) : Instr :=
  match lo with
  | 0x0 => .jsr b1 b2
  | 0x1 => .andInx b1
  | 0x2 => .unmapped22
  | 0x3 => .unmapped23
  | 0x4 => .bitZp b1
  | 0x5 => .andZp b1
  | 0x6 => .rolZp b1
  | 0x7 => .unmapped27
  | 0x8 => .plp
  | 0x9 => .andImm b1
  | 0xA => .rolAcc
  | 0xB => .unmapped2B
  | 0xC => .bitAbs b1 b2
  | 0xD => .andAbs b1 b2
  | 0xE => .rolAbs b1 b2
  | _ => .unmapped2F

/-- Row 3x of the opcode map of R123; `lo` is the low nibble of the opcode. -/
def decodeRow3 (lo : Nat) (b1 b2 : Byte) : Instr :=
  match lo with
  | 0x0 => .bmi b1
  | 0x1 => .andIny b1
  | 0x2 => .unmapped32
  | 0x3 => .unmapped33
  | 0x4 => .unmapped34
  | 0x5 => .andZpx b1
  | 0x6 => .rolZpx b1
  | 0x7 => .unmapped37
  | 0x8 => .sec
  | 0x9 => .andAby b1 b2
  | 0xA => .unmapped3A
  | 0xB => .unmapped3B
  | 0xC => .unmapped3C
  | 0xD => .andAbx b1 b2
  | 0xE => .rolAbx b1 b2
  | _ => .unmapped3F

/-- Row 4x of the opcode map of R123; `lo` is the low nibble of the opcode. -/
def decodeRow4 (lo : Nat) (b1 b2 : Byte) : Instr :=
  match lo with
  | 0x0 => .rti
  | 0x1 => .eorInx b1
  | 0x2 => .unmapped42
  | 0x3 => .unmapped43
  | 0x4 => .unmapped44
  | 0x5 => .eorZp b1
  | 0x6 => .lsrZp b1
  | 0x7 => .unmapped47
  | 0x8 => .pha
  | 0x9 => .eorImm b1
  | 0xA => .lsrAcc
  | 0xB => .unmapped4B
  | 0xC => .jmpAbs b1 b2
  | 0xD => .eorAbs b1 b2
  | 0xE => .lsrAbs b1 b2
  | _ => .unmapped4F

/-- Row 5x of the opcode map of R123; `lo` is the low nibble of the opcode. -/
def decodeRow5 (lo : Nat) (b1 b2 : Byte) : Instr :=
  match lo with
  | 0x0 => .bvc b1
  | 0x1 => .eorIny b1
  | 0x2 => .unmapped52
  | 0x3 => .unmapped53
  | 0x4 => .unmapped54
  | 0x5 => .eorZpx b1
  | 0x6 => .lsrZpx b1
  | 0x7 => .unmapped57
  | 0x8 => .cli
  | 0x9 => .eorAby b1 b2
  | 0xA => .unmapped5A
  | 0xB => .unmapped5B
  | 0xC => .unmapped5C
  | 0xD => .eorAbx b1 b2
  | 0xE => .lsrAbx b1 b2
  | _ => .unmapped5F

/-- Row 6x of the opcode map of R123; `lo` is the low nibble of the opcode. -/
def decodeRow6 (lo : Nat) (b1 b2 : Byte) : Instr :=
  match lo with
  | 0x0 => .rts
  | 0x1 => .adcInx b1
  | 0x2 => .unmapped62
  | 0x3 => .unmapped63
  | 0x4 => .unmapped64
  | 0x5 => .adcZp b1
  | 0x6 => .rorZp b1
  | 0x7 => .unmapped67
  | 0x8 => .pla
  | 0x9 => .adcImm b1
  | 0xA => .rorAcc
  | 0xB => .unmapped6B
  | 0xC => .jmpInd b1 b2
  | 0xD => .adcAbs b1 b2
  | 0xE => .rorAbs b1 b2
  | _ => .unmapped6F

/-- Row 7x of the opcode map of R123; `lo` is the low nibble of the opcode. -/
def decodeRow7 (lo : Nat) (b1 b2 : Byte) : Instr :=
  match lo with
  | 0x0 => .bvs b1
  | 0x1 => .adcIny b1
  | 0x2 => .unmapped72
  | 0x3 => .unmapped73
  | 0x4 => .unmapped74
  | 0x5 => .adcZpx b1
  | 0x6 => .rorZpx b1
  | 0x7 => .unmapped77
  | 0x8 => .sei
  | 0x9 => .adcAby b1 b2
  | 0xA => .unmapped7A
  | 0xB => .unmapped7B
  | 0xC => .unmapped7C
  | 0xD => .adcAbx b1 b2
  | 0xE => .rorAbx b1 b2
  | _ => .unmapped7F

/-- Row 8x of the opcode map of R123; `lo` is the low nibble of the opcode. -/
def decodeRow8 (lo : Nat) (b1 b2 : Byte) : Instr :=
  match lo with
  | 0x0 => .unmapped80
  | 0x1 => .staInx b1
  | 0x2 => .unmapped82
  | 0x3 => .unmapped83
  | 0x4 => .styZp b1
  | 0x5 => .staZp b1
  | 0x6 => .stxZp b1
  | 0x7 => .unmapped87
  | 0x8 => .dey
  | 0x9 => .unmapped89
  | 0xA => .txa
  | 0xB => .unmapped8B
  | 0xC => .styAbs b1 b2
  | 0xD => .staAbs b1 b2
  | 0xE => .stxAbs b1 b2
  | _ => .unmapped8F

/-- Row 9x of the opcode map of R123; `lo` is the low nibble of the opcode. -/
def decodeRow9 (lo : Nat) (b1 b2 : Byte) : Instr :=
  match lo with
  | 0x0 => .bcc b1
  | 0x1 => .staIny b1
  | 0x2 => .unmapped92
  | 0x3 => .unmapped93
  | 0x4 => .styZpx b1
  | 0x5 => .staZpx b1
  | 0x6 => .stxZpy b1
  | 0x7 => .unmapped97
  | 0x8 => .tya
  | 0x9 => .staAby b1 b2
  | 0xA => .txs
  | 0xB => .unmapped9B
  | 0xC => .unmapped9C
  | 0xD => .staAbx b1 b2
  | 0xE => .unmapped9E
  | _ => .unmapped9F

/-- Row Ax of the opcode map of R123; `lo` is the low nibble of the opcode. -/
def decodeRowA (lo : Nat) (b1 b2 : Byte) : Instr :=
  match lo with
  | 0x0 => .ldyImm b1
  | 0x1 => .ldaInx b1
  | 0x2 => .ldxImm b1
  | 0x3 => .unmappedA3
  | 0x4 => .ldyZp b1
  | 0x5 => .ldaZp b1
  | 0x6 => .ldxZp b1
  | 0x7 => .unmappedA7
  | 0x8 => .tay
  | 0x9 => .ldaImm b1
  | 0xA => .tax
  | 0xB => .unmappedAB
  | 0xC => .ldyAbs b1 b2
  | 0xD => .ldaAbs b1 b2
  | 0xE => .ldxAbs b1 b2
  | _ => .unmappedAF

/-- Row Bx of the opcode map of R123; `lo` is the low nibble of the opcode. -/
def decodeRowB (lo : Nat) (b1 b2 : Byte) : Instr :=
  match lo with
  | 0x0 => .bcs b1
  | 0x1 => .ldaIny b1
  | 0x2 => .unmappedB2
  | 0x3 => .unmappedB3
  | 0x4 => .ldyZpx b1
  | 0x5 => .ldaZpx b1
  | 0x6 => .ldxZpy b1
  | 0x7 => .unmappedB7
  | 0x8 => .clv
  | 0x9 => .ldaAby b1 b2
  | 0xA => .tsx
  | 0xB => .unmappedBB
  | 0xC => .ldyAbx b1 b2
  | 0xD => .ldaAbx b1 b2
  | 0xE => .ldxAby b1 b2
  | _ => .unmappedBF

/-- Row Cx of the opcode map of R123; `lo` is the low nibble of the opcode. -/
def decodeRowC (lo : Nat) (b1 b2 : Byte) : Instr :=
  match lo with
  | 0x0 => .cpyImm b1
  | 0x1 => .cmpInx b1
  | 0x2 => .unmappedC2
  | 0x3 => .unmappedC3
  | 0x4 => .cpyZp b1
  | 0x5 => .cmpZp b1
  | 0x6 => .decZp b1
  | 0x7 => .unmappedC7
  | 0x8 => .iny
  | 0x9 => .cmpImm b1
  | 0xA => .dex
  | 0xB => .unmappedCB
  | 0xC => .cpyAbs b1 b2
  | 0xD => .cmpAbs b1 b2
  | 0xE => .decAbs b1 b2
  | _ => .unmappedCF

/-- Row Dx of the opcode map of R123; `lo` is the low nibble of the opcode. -/
def decodeRowD (lo : Nat) (b1 b2 : Byte) : Instr :=
  match lo with
  | 0x0 => .bne b1
  | 0x1 => .cmpIny b1
  | 0x2 => .unmappedD2
  | 0x3 => .unmappedD3
  | 0x4 => .unmappedD4
  | 0x5 => .cmpZpx b1
  | 0x6 => .decZpx b1
  | 0x7 => .unmappedD7
  | 0x8 => .cld
  | 0x9 => .cmpAby b1 b2
  | 0xA => .unmappedDA
  | 0xB => .unmappedDB
  | 0xC => .unmappedDC
  | 0xD => .cmpAbx b1 b2
  | 0xE => .decAbx b1 b2
  | _ => .unmappedDF

/-- Row Ex of the opcode map of R123; `lo` is the low nibble of the opcode. -/
def decodeRowE (lo : Nat) (b1 b2 : Byte) : Instr :=
  match lo with
  | 0x0 => .cpxImm b1
  | 0x1 => .sbcInx b1
  | 0x2 => .unmappedE2
  | 0x3 => .unmappedE3
  | 0x4 => .cpxZp b1
  | 0x5 => .sbcZp b1
  | 0x6 => .incZp b1
  | 0x7 => .unmappedE7
  | 0x8 => .inx
  | 0x9 => .sbcImm b1
  | 0xA => .nop
  | 0xB => .unmappedEB
  | 0xC => .cpxAbs b1 b2
  | 0xD => .sbcAbs b1 b2
  | 0xE => .incAbs b1 b2
  | _ => .unmappedEF

/-- Row Fx of the opcode map of R123; `lo` is the low nibble of the opcode. -/
def decodeRowF (lo : Nat) (b1 b2 : Byte) : Instr :=
  match lo with
  | 0x0 => .beq b1
  | 0x1 => .sbcIny b1
  | 0x2 => .unmappedF2
  | 0x3 => .unmappedF3
  | 0x4 => .unmappedF4
  | 0x5 => .sbcZpx b1
  | 0x6 => .incZpx b1
  | 0x7 => .unmappedF7
  | 0x8 => .sed
  | 0x9 => .sbcAby b1 b2
  | 0xA => .unmappedFA
  | 0xB => .unmappedFB
  | 0xC => .unmappedFC
  | 0xD => .sbcAbx b1 b2
  | 0xE => .incAbx b1 b2
  | _ => .unmappedFF

/-- The instruction of an opcode byte with the two bytes after it (R120, R123). Total: every one of the 256 values has a row. -/
def decodeOpcode (op b1 b2 : Byte) : Instr :=
  let lo := op.toNat % 16
  match op.toNat / 16 with
  | 0x0 => decodeRow0 lo b1 b2
  | 0x1 => decodeRow1 lo b1 b2
  | 0x2 => decodeRow2 lo b1 b2
  | 0x3 => decodeRow3 lo b1 b2
  | 0x4 => decodeRow4 lo b1 b2
  | 0x5 => decodeRow5 lo b1 b2
  | 0x6 => decodeRow6 lo b1 b2
  | 0x7 => decodeRow7 lo b1 b2
  | 0x8 => decodeRow8 lo b1 b2
  | 0x9 => decodeRow9 lo b1 b2
  | 0xA => decodeRowA lo b1 b2
  | 0xB => decodeRowB lo b1 b2
  | 0xC => decodeRowC lo b1 b2
  | 0xD => decodeRowD lo b1 b2
  | 0xE => decodeRowE lo b1 b2
  | _ => decodeRowF lo b1 b2

/-- The number of bytes of an instruction (R121), 0 for a pseudo-instruction, which no byte selects (R126).
BRK has length 1 and skips one further byte when it runs (R340). -/
def Instr.length : Instr → Nat
  | .oraInx _ => 2
  | .oraZp _ => 2
  | .aslZp _ => 2
  | .oraImm _ => 2
  | .oraAbs _ _ => 3
  | .aslAbs _ _ => 3
  | .bpl _ => 2
  | .oraIny _ => 2
  | .oraZpx _ => 2
  | .aslZpx _ => 2
  | .oraAby _ _ => 3
  | .oraAbx _ _ => 3
  | .aslAbx _ _ => 3
  | .jsr _ _ => 3
  | .andInx _ => 2
  | .bitZp _ => 2
  | .andZp _ => 2
  | .rolZp _ => 2
  | .andImm _ => 2
  | .bitAbs _ _ => 3
  | .andAbs _ _ => 3
  | .rolAbs _ _ => 3
  | .bmi _ => 2
  | .andIny _ => 2
  | .andZpx _ => 2
  | .rolZpx _ => 2
  | .andAby _ _ => 3
  | .andAbx _ _ => 3
  | .rolAbx _ _ => 3
  | .eorInx _ => 2
  | .eorZp _ => 2
  | .lsrZp _ => 2
  | .eorImm _ => 2
  | .jmpAbs _ _ => 3
  | .eorAbs _ _ => 3
  | .lsrAbs _ _ => 3
  | .bvc _ => 2
  | .eorIny _ => 2
  | .eorZpx _ => 2
  | .lsrZpx _ => 2
  | .eorAby _ _ => 3
  | .eorAbx _ _ => 3
  | .lsrAbx _ _ => 3
  | .adcInx _ => 2
  | .adcZp _ => 2
  | .rorZp _ => 2
  | .adcImm _ => 2
  | .jmpInd _ _ => 3
  | .adcAbs _ _ => 3
  | .rorAbs _ _ => 3
  | .bvs _ => 2
  | .adcIny _ => 2
  | .adcZpx _ => 2
  | .rorZpx _ => 2
  | .adcAby _ _ => 3
  | .adcAbx _ _ => 3
  | .rorAbx _ _ => 3
  | .staInx _ => 2
  | .styZp _ => 2
  | .staZp _ => 2
  | .stxZp _ => 2
  | .styAbs _ _ => 3
  | .staAbs _ _ => 3
  | .stxAbs _ _ => 3
  | .bcc _ => 2
  | .staIny _ => 2
  | .styZpx _ => 2
  | .staZpx _ => 2
  | .stxZpy _ => 2
  | .staAby _ _ => 3
  | .staAbx _ _ => 3
  | .ldyImm _ => 2
  | .ldaInx _ => 2
  | .ldxImm _ => 2
  | .ldyZp _ => 2
  | .ldaZp _ => 2
  | .ldxZp _ => 2
  | .ldaImm _ => 2
  | .ldyAbs _ _ => 3
  | .ldaAbs _ _ => 3
  | .ldxAbs _ _ => 3
  | .bcs _ => 2
  | .ldaIny _ => 2
  | .ldyZpx _ => 2
  | .ldaZpx _ => 2
  | .ldxZpy _ => 2
  | .ldaAby _ _ => 3
  | .ldyAbx _ _ => 3
  | .ldaAbx _ _ => 3
  | .ldxAby _ _ => 3
  | .cpyImm _ => 2
  | .cmpInx _ => 2
  | .cpyZp _ => 2
  | .cmpZp _ => 2
  | .decZp _ => 2
  | .cmpImm _ => 2
  | .cpyAbs _ _ => 3
  | .cmpAbs _ _ => 3
  | .decAbs _ _ => 3
  | .bne _ => 2
  | .cmpIny _ => 2
  | .cmpZpx _ => 2
  | .decZpx _ => 2
  | .cmpAby _ _ => 3
  | .cmpAbx _ _ => 3
  | .decAbx _ _ => 3
  | .cpxImm _ => 2
  | .sbcInx _ => 2
  | .cpxZp _ => 2
  | .sbcZp _ => 2
  | .incZp _ => 2
  | .sbcImm _ => 2
  | .cpxAbs _ _ => 3
  | .sbcAbs _ _ => 3
  | .incAbs _ _ => 3
  | .beq _ => 2
  | .sbcIny _ => 2
  | .sbcZpx _ => 2
  | .incZpx _ => 2
  | .sbcAby _ _ => 3
  | .sbcAbx _ _ => 3
  | .incAbx _ _ => 3
  | .brk => 1
  | .php => 1
  | .aslAcc => 1
  | .clc => 1
  | .plp => 1
  | .rolAcc => 1
  | .sec => 1
  | .rti => 1
  | .pha => 1
  | .lsrAcc => 1
  | .cli => 1
  | .rts => 1
  | .pla => 1
  | .rorAcc => 1
  | .sei => 1
  | .dey => 1
  | .txa => 1
  | .tya => 1
  | .txs => 1
  | .tay => 1
  | .tax => 1
  | .clv => 1
  | .tsx => 1
  | .iny => 1
  | .dex => 1
  | .cld => 1
  | .inx => 1
  | .nop => 1
  | .sed => 1
  | .unmapped02 => 1
  | .unmapped03 => 1
  | .unmapped04 => 1
  | .unmapped07 => 1
  | .unmapped0B => 1
  | .unmapped0C => 1
  | .unmapped0F => 1
  | .unmapped12 => 1
  | .unmapped13 => 1
  | .unmapped14 => 1
  | .unmapped17 => 1
  | .unmapped1A => 1
  | .unmapped1B => 1
  | .unmapped1C => 1
  | .unmapped1F => 1
  | .unmapped22 => 1
  | .unmapped23 => 1
  | .unmapped27 => 1
  | .unmapped2B => 1
  | .unmapped2F => 1
  | .unmapped32 => 1
  | .unmapped33 => 1
  | .unmapped34 => 1
  | .unmapped37 => 1
  | .unmapped3A => 1
  | .unmapped3B => 1
  | .unmapped3C => 1
  | .unmapped3F => 1
  | .unmapped42 => 1
  | .unmapped43 => 1
  | .unmapped44 => 1
  | .unmapped47 => 1
  | .unmapped4B => 1
  | .unmapped4F => 1
  | .unmapped52 => 1
  | .unmapped53 => 1
  | .unmapped54 => 1
  | .unmapped57 => 1
  | .unmapped5A => 1
  | .unmapped5B => 1
  | .unmapped5C => 1
  | .unmapped5F => 1
  | .unmapped62 => 1
  | .unmapped63 => 1
  | .unmapped64 => 1
  | .unmapped67 => 1
  | .unmapped6B => 1
  | .unmapped6F => 1
  | .unmapped72 => 1
  | .unmapped73 => 1
  | .unmapped74 => 1
  | .unmapped77 => 1
  | .unmapped7A => 1
  | .unmapped7B => 1
  | .unmapped7C => 1
  | .unmapped7F => 1
  | .unmapped80 => 1
  | .unmapped82 => 1
  | .unmapped83 => 1
  | .unmapped87 => 1
  | .unmapped89 => 1
  | .unmapped8B => 1
  | .unmapped8F => 1
  | .unmapped92 => 1
  | .unmapped93 => 1
  | .unmapped97 => 1
  | .unmapped9B => 1
  | .unmapped9C => 1
  | .unmapped9E => 1
  | .unmapped9F => 1
  | .unmappedA3 => 1
  | .unmappedA7 => 1
  | .unmappedAB => 1
  | .unmappedAF => 1
  | .unmappedB2 => 1
  | .unmappedB3 => 1
  | .unmappedB7 => 1
  | .unmappedBB => 1
  | .unmappedBF => 1
  | .unmappedC2 => 1
  | .unmappedC3 => 1
  | .unmappedC7 => 1
  | .unmappedCB => 1
  | .unmappedCF => 1
  | .unmappedD2 => 1
  | .unmappedD3 => 1
  | .unmappedD4 => 1
  | .unmappedD7 => 1
  | .unmappedDA => 1
  | .unmappedDB => 1
  | .unmappedDC => 1
  | .unmappedDF => 1
  | .unmappedE2 => 1
  | .unmappedE3 => 1
  | .unmappedE7 => 1
  | .unmappedEB => 1
  | .unmappedEF => 1
  | .unmappedF2 => 1
  | .unmappedF3 => 1
  | .unmappedF4 => 1
  | .unmappedF7 => 1
  | .unmappedFA => 1
  | .unmappedFB => 1
  | .unmappedFC => 1
  | .unmappedFF => 1
  | .reset => 0
  | .nmi => 0
  | .irq => 0

/-- The length in bytes that an opcode value gives its instruction (R120). -/
def opcodeLength (op : Byte) : Nat :=
  (decodeOpcode op 0 0).length

/-- Why a byte string holds no instruction at its start. -/
inductive DecodeError where
  /-- There is no byte at all. -/
  | noOpcode
  /-- The opcode's format takes more operand bytes than follow it (R120). -/
  | missingOperand (op : Byte)
deriving DecidableEq, Repr

/-- Decode the instruction at the start of a byte string, with the bytes that follow it (R120). -/
def decode : List Byte → Except DecodeError (Instr × List Byte)
  | [] => .error .noOpcode
  | op :: rest =>
    if rest.length + 1 < opcodeLength op then .error (.missingOperand op)
    else .ok (decodeOpcode op (rest.getD 0 0) (rest.getD 1 0), rest.drop (opcodeLength op - 1))

/-- The row of opcode_table.json that `OPTABLE` gives an opcode value (R8): itself unless the parameter says otherwise. -/
def Config.rowOf (cfg : Config) (op : Byte) : Byte :=
  (cfg.optable.lookup op).getD op

/-- The instruction a selector value stands for (R44, R123, R126), with the two bytes after the opcode.
`none` for the values 0x103 to 0x1FF, which the arbiter never writes. -/
def decodeSelector (cfg : Config) (sel : Selector) (b1 b2 : Byte) : Option Instr :=
  if sel = Config.selReset then some .reset
  else if sel = Config.selNmi then some .nmi
  else if sel = Config.selIrq then some .irq
  else if sel.toNat < 256 then some (decodeOpcode (cfg.rowOf (sel.setWidth 8)) b1 b2)
  else none

/-- The encoding of an instruction, opcode first, then its operand bytes at ascending addresses (R120 to R124).
A pseudo-instruction has none (R126). -/
def encode : Instr → List Byte
  | .oraInx b1 => [0x01#8, b1]
  | .oraZp b1 => [0x05#8, b1]
  | .aslZp b1 => [0x06#8, b1]
  | .oraImm b1 => [0x09#8, b1]
  | .oraAbs b1 b2 => [0x0D#8, b1, b2]
  | .aslAbs b1 b2 => [0x0E#8, b1, b2]
  | .bpl b1 => [0x10#8, b1]
  | .oraIny b1 => [0x11#8, b1]
  | .oraZpx b1 => [0x15#8, b1]
  | .aslZpx b1 => [0x16#8, b1]
  | .oraAby b1 b2 => [0x19#8, b1, b2]
  | .oraAbx b1 b2 => [0x1D#8, b1, b2]
  | .aslAbx b1 b2 => [0x1E#8, b1, b2]
  | .jsr b1 b2 => [0x20#8, b1, b2]
  | .andInx b1 => [0x21#8, b1]
  | .bitZp b1 => [0x24#8, b1]
  | .andZp b1 => [0x25#8, b1]
  | .rolZp b1 => [0x26#8, b1]
  | .andImm b1 => [0x29#8, b1]
  | .bitAbs b1 b2 => [0x2C#8, b1, b2]
  | .andAbs b1 b2 => [0x2D#8, b1, b2]
  | .rolAbs b1 b2 => [0x2E#8, b1, b2]
  | .bmi b1 => [0x30#8, b1]
  | .andIny b1 => [0x31#8, b1]
  | .andZpx b1 => [0x35#8, b1]
  | .rolZpx b1 => [0x36#8, b1]
  | .andAby b1 b2 => [0x39#8, b1, b2]
  | .andAbx b1 b2 => [0x3D#8, b1, b2]
  | .rolAbx b1 b2 => [0x3E#8, b1, b2]
  | .eorInx b1 => [0x41#8, b1]
  | .eorZp b1 => [0x45#8, b1]
  | .lsrZp b1 => [0x46#8, b1]
  | .eorImm b1 => [0x49#8, b1]
  | .jmpAbs b1 b2 => [0x4C#8, b1, b2]
  | .eorAbs b1 b2 => [0x4D#8, b1, b2]
  | .lsrAbs b1 b2 => [0x4E#8, b1, b2]
  | .bvc b1 => [0x50#8, b1]
  | .eorIny b1 => [0x51#8, b1]
  | .eorZpx b1 => [0x55#8, b1]
  | .lsrZpx b1 => [0x56#8, b1]
  | .eorAby b1 b2 => [0x59#8, b1, b2]
  | .eorAbx b1 b2 => [0x5D#8, b1, b2]
  | .lsrAbx b1 b2 => [0x5E#8, b1, b2]
  | .adcInx b1 => [0x61#8, b1]
  | .adcZp b1 => [0x65#8, b1]
  | .rorZp b1 => [0x66#8, b1]
  | .adcImm b1 => [0x69#8, b1]
  | .jmpInd b1 b2 => [0x6C#8, b1, b2]
  | .adcAbs b1 b2 => [0x6D#8, b1, b2]
  | .rorAbs b1 b2 => [0x6E#8, b1, b2]
  | .bvs b1 => [0x70#8, b1]
  | .adcIny b1 => [0x71#8, b1]
  | .adcZpx b1 => [0x75#8, b1]
  | .rorZpx b1 => [0x76#8, b1]
  | .adcAby b1 b2 => [0x79#8, b1, b2]
  | .adcAbx b1 b2 => [0x7D#8, b1, b2]
  | .rorAbx b1 b2 => [0x7E#8, b1, b2]
  | .staInx b1 => [0x81#8, b1]
  | .styZp b1 => [0x84#8, b1]
  | .staZp b1 => [0x85#8, b1]
  | .stxZp b1 => [0x86#8, b1]
  | .styAbs b1 b2 => [0x8C#8, b1, b2]
  | .staAbs b1 b2 => [0x8D#8, b1, b2]
  | .stxAbs b1 b2 => [0x8E#8, b1, b2]
  | .bcc b1 => [0x90#8, b1]
  | .staIny b1 => [0x91#8, b1]
  | .styZpx b1 => [0x94#8, b1]
  | .staZpx b1 => [0x95#8, b1]
  | .stxZpy b1 => [0x96#8, b1]
  | .staAby b1 b2 => [0x99#8, b1, b2]
  | .staAbx b1 b2 => [0x9D#8, b1, b2]
  | .ldyImm b1 => [0xA0#8, b1]
  | .ldaInx b1 => [0xA1#8, b1]
  | .ldxImm b1 => [0xA2#8, b1]
  | .ldyZp b1 => [0xA4#8, b1]
  | .ldaZp b1 => [0xA5#8, b1]
  | .ldxZp b1 => [0xA6#8, b1]
  | .ldaImm b1 => [0xA9#8, b1]
  | .ldyAbs b1 b2 => [0xAC#8, b1, b2]
  | .ldaAbs b1 b2 => [0xAD#8, b1, b2]
  | .ldxAbs b1 b2 => [0xAE#8, b1, b2]
  | .bcs b1 => [0xB0#8, b1]
  | .ldaIny b1 => [0xB1#8, b1]
  | .ldyZpx b1 => [0xB4#8, b1]
  | .ldaZpx b1 => [0xB5#8, b1]
  | .ldxZpy b1 => [0xB6#8, b1]
  | .ldaAby b1 b2 => [0xB9#8, b1, b2]
  | .ldyAbx b1 b2 => [0xBC#8, b1, b2]
  | .ldaAbx b1 b2 => [0xBD#8, b1, b2]
  | .ldxAby b1 b2 => [0xBE#8, b1, b2]
  | .cpyImm b1 => [0xC0#8, b1]
  | .cmpInx b1 => [0xC1#8, b1]
  | .cpyZp b1 => [0xC4#8, b1]
  | .cmpZp b1 => [0xC5#8, b1]
  | .decZp b1 => [0xC6#8, b1]
  | .cmpImm b1 => [0xC9#8, b1]
  | .cpyAbs b1 b2 => [0xCC#8, b1, b2]
  | .cmpAbs b1 b2 => [0xCD#8, b1, b2]
  | .decAbs b1 b2 => [0xCE#8, b1, b2]
  | .bne b1 => [0xD0#8, b1]
  | .cmpIny b1 => [0xD1#8, b1]
  | .cmpZpx b1 => [0xD5#8, b1]
  | .decZpx b1 => [0xD6#8, b1]
  | .cmpAby b1 b2 => [0xD9#8, b1, b2]
  | .cmpAbx b1 b2 => [0xDD#8, b1, b2]
  | .decAbx b1 b2 => [0xDE#8, b1, b2]
  | .cpxImm b1 => [0xE0#8, b1]
  | .sbcInx b1 => [0xE1#8, b1]
  | .cpxZp b1 => [0xE4#8, b1]
  | .sbcZp b1 => [0xE5#8, b1]
  | .incZp b1 => [0xE6#8, b1]
  | .sbcImm b1 => [0xE9#8, b1]
  | .cpxAbs b1 b2 => [0xEC#8, b1, b2]
  | .sbcAbs b1 b2 => [0xED#8, b1, b2]
  | .incAbs b1 b2 => [0xEE#8, b1, b2]
  | .beq b1 => [0xF0#8, b1]
  | .sbcIny b1 => [0xF1#8, b1]
  | .sbcZpx b1 => [0xF5#8, b1]
  | .incZpx b1 => [0xF6#8, b1]
  | .sbcAby b1 b2 => [0xF9#8, b1, b2]
  | .sbcAbx b1 b2 => [0xFD#8, b1, b2]
  | .incAbx b1 b2 => [0xFE#8, b1, b2]
  | .brk => [0x00#8]
  | .php => [0x08#8]
  | .aslAcc => [0x0A#8]
  | .clc => [0x18#8]
  | .plp => [0x28#8]
  | .rolAcc => [0x2A#8]
  | .sec => [0x38#8]
  | .rti => [0x40#8]
  | .pha => [0x48#8]
  | .lsrAcc => [0x4A#8]
  | .cli => [0x58#8]
  | .rts => [0x60#8]
  | .pla => [0x68#8]
  | .rorAcc => [0x6A#8]
  | .sei => [0x78#8]
  | .dey => [0x88#8]
  | .txa => [0x8A#8]
  | .tya => [0x98#8]
  | .txs => [0x9A#8]
  | .tay => [0xA8#8]
  | .tax => [0xAA#8]
  | .clv => [0xB8#8]
  | .tsx => [0xBA#8]
  | .iny => [0xC8#8]
  | .dex => [0xCA#8]
  | .cld => [0xD8#8]
  | .inx => [0xE8#8]
  | .nop => [0xEA#8]
  | .sed => [0xF8#8]
  | .unmapped02 => [0x02#8]
  | .unmapped03 => [0x03#8]
  | .unmapped04 => [0x04#8]
  | .unmapped07 => [0x07#8]
  | .unmapped0B => [0x0B#8]
  | .unmapped0C => [0x0C#8]
  | .unmapped0F => [0x0F#8]
  | .unmapped12 => [0x12#8]
  | .unmapped13 => [0x13#8]
  | .unmapped14 => [0x14#8]
  | .unmapped17 => [0x17#8]
  | .unmapped1A => [0x1A#8]
  | .unmapped1B => [0x1B#8]
  | .unmapped1C => [0x1C#8]
  | .unmapped1F => [0x1F#8]
  | .unmapped22 => [0x22#8]
  | .unmapped23 => [0x23#8]
  | .unmapped27 => [0x27#8]
  | .unmapped2B => [0x2B#8]
  | .unmapped2F => [0x2F#8]
  | .unmapped32 => [0x32#8]
  | .unmapped33 => [0x33#8]
  | .unmapped34 => [0x34#8]
  | .unmapped37 => [0x37#8]
  | .unmapped3A => [0x3A#8]
  | .unmapped3B => [0x3B#8]
  | .unmapped3C => [0x3C#8]
  | .unmapped3F => [0x3F#8]
  | .unmapped42 => [0x42#8]
  | .unmapped43 => [0x43#8]
  | .unmapped44 => [0x44#8]
  | .unmapped47 => [0x47#8]
  | .unmapped4B => [0x4B#8]
  | .unmapped4F => [0x4F#8]
  | .unmapped52 => [0x52#8]
  | .unmapped53 => [0x53#8]
  | .unmapped54 => [0x54#8]
  | .unmapped57 => [0x57#8]
  | .unmapped5A => [0x5A#8]
  | .unmapped5B => [0x5B#8]
  | .unmapped5C => [0x5C#8]
  | .unmapped5F => [0x5F#8]
  | .unmapped62 => [0x62#8]
  | .unmapped63 => [0x63#8]
  | .unmapped64 => [0x64#8]
  | .unmapped67 => [0x67#8]
  | .unmapped6B => [0x6B#8]
  | .unmapped6F => [0x6F#8]
  | .unmapped72 => [0x72#8]
  | .unmapped73 => [0x73#8]
  | .unmapped74 => [0x74#8]
  | .unmapped77 => [0x77#8]
  | .unmapped7A => [0x7A#8]
  | .unmapped7B => [0x7B#8]
  | .unmapped7C => [0x7C#8]
  | .unmapped7F => [0x7F#8]
  | .unmapped80 => [0x80#8]
  | .unmapped82 => [0x82#8]
  | .unmapped83 => [0x83#8]
  | .unmapped87 => [0x87#8]
  | .unmapped89 => [0x89#8]
  | .unmapped8B => [0x8B#8]
  | .unmapped8F => [0x8F#8]
  | .unmapped92 => [0x92#8]
  | .unmapped93 => [0x93#8]
  | .unmapped97 => [0x97#8]
  | .unmapped9B => [0x9B#8]
  | .unmapped9C => [0x9C#8]
  | .unmapped9E => [0x9E#8]
  | .unmapped9F => [0x9F#8]
  | .unmappedA3 => [0xA3#8]
  | .unmappedA7 => [0xA7#8]
  | .unmappedAB => [0xAB#8]
  | .unmappedAF => [0xAF#8]
  | .unmappedB2 => [0xB2#8]
  | .unmappedB3 => [0xB3#8]
  | .unmappedB7 => [0xB7#8]
  | .unmappedBB => [0xBB#8]
  | .unmappedBF => [0xBF#8]
  | .unmappedC2 => [0xC2#8]
  | .unmappedC3 => [0xC3#8]
  | .unmappedC7 => [0xC7#8]
  | .unmappedCB => [0xCB#8]
  | .unmappedCF => [0xCF#8]
  | .unmappedD2 => [0xD2#8]
  | .unmappedD3 => [0xD3#8]
  | .unmappedD4 => [0xD4#8]
  | .unmappedD7 => [0xD7#8]
  | .unmappedDA => [0xDA#8]
  | .unmappedDB => [0xDB#8]
  | .unmappedDC => [0xDC#8]
  | .unmappedDF => [0xDF#8]
  | .unmappedE2 => [0xE2#8]
  | .unmappedE3 => [0xE3#8]
  | .unmappedE7 => [0xE7#8]
  | .unmappedEB => [0xEB#8]
  | .unmappedEF => [0xEF#8]
  | .unmappedF2 => [0xF2#8]
  | .unmappedF3 => [0xF3#8]
  | .unmappedF4 => [0xF4#8]
  | .unmappedF7 => [0xF7#8]
  | .unmappedFA => [0xFA#8]
  | .unmappedFB => [0xFB#8]
  | .unmappedFC => [0xFC#8]
  | .unmappedFF => [0xFF#8]
  | .reset => []
  | .nmi => []
  | .irq => []

/-- Byte `k` of a word of opcode-table bits: bit 0 of the word is bit 0 of the first byte. -/
def tableByte (w k : Nat) : Byte :=
  BitVec.ofNat 8 (w / 256 ^ k)

/-- Whether opcode-table bits are the selector code of a pseudo-instruction row (its mask has nine bits, R123).
A one-byte row never is; the rows of two whole bytes in the table are exactly the three selector rows (log entry 8). -/
def tableSelector (nbits w : Nat) : Option Selector :=
  if (nbits = 9 ∨ nbits = 16) ∧ 0x100 ≤ w ∧ w ≤ 0x102 then some (BitVec.ofNat 9 w) else none

/-- The instruction this decoder reads from the bits of a row of opcode_table.json; the bits above `nbits` are 0. -/
def decodeTableWord (nbits w : Nat) : Option Instr :=
  match tableSelector nbits w with
  | some sel => decodeSelector Config.default sel 0 0
  | none =>
    let v := w % 2 ^ nbits
    match decode [tableByte v 0, tableByte v 1, tableByte v 2] with
    | .ok (i, _) => some i
    | .error _ => none

end Sys2Proof
end

