-- ==== Sys2Proof/WellFormed.lean ====
section
/-! DEFINITION. What well-formed instructions and parameters are. The operand bytes are well-formed by their type. -/

namespace Sys2Proof

/-- The three pseudo-instructions "are not encodings: no byte in memory selects them" (R126). -/
def Instr.isPseudo (i : Instr) : Bool :=
  decide (i = .reset) || decide (i = .nmi) || decide (i = .irq)

/-- An instruction that a program's bytes can hold: any but the three pseudo-instructions (R126). -/
def Instr.wellFormed (i : Instr) : Bool :=
  !i.isPseudo

/-- `CLK_DIV`: "N >= 1" (R8). -/
def Config.clockOk (cfg : Config) : Bool :=
  decide (1 ≤ cfg.clkDiv)

/-- The stack page runs from `STACK_BASE` to `STACK_BASE + 0xFF` (R103), which `STACK_BASE | SP` (R24) spans exactly when
the base has no low bits. Only statements about the stack page assume it; every definition works without. -/
def Config.stackPageOk (cfg : Config) : Bool :=
  decide (cfg.stackBase.setWidth 8 = 0#8)

/-- `EVAL_ORDER` for a system whose `k`-th memory device the CPU addresses iff `addressed[k]`: every device "exactly once"
(R70) and "the CPU before every memory device it addresses" (R8, R425, U18). Among the memory devices, and for one that the
CPU does not address, any order is allowed. -/
def Config.evalOrderOk (cfg : Config) (addressed : List Bool) : Bool :=
  cfg.evalOrder.isPerm (.cpu :: (List.range addressed.length).map .mem) &&
    (cfg.evalOrder.takeWhile (· != .cpu)).all fun
      | .cpu => true
      | .mem k => !addressed.getD k false

/-- The parameters R8 allows for a system with these memory devices. -/
def Config.wellFormed (cfg : Config) (addressed : List Bool) : Bool :=
  cfg.clockOk && cfg.stackPageOk && cfg.evalOrderOk addressed

end Sys2Proof
end

