-- ==== Sys2Proof/Machine/Platform.lean ====
section
/-! DEFINITION. To which systems and states the instruction-level view applies (40_sequencer.md R179), and the first clock
cycle of an instruction, in which the arbiter selects it. -/

namespace Sys2Proof.Machine

/-- The CPU addresses this memory device: the device's address bus is the bus of the CPU's `ADDR` port. -/
def State.addresses (s : State) (d : MemDevice) : Bool :=
  decide (d.addrBus = s.cfg.ports.addr)

/-- The evaluation order is one that R8 and R425 allow for this system. -/
def State.evalOrderOk (s : State) : Bool :=
  s.cfg.evalOrderOk (s.mems.map s.addresses)

/-- A memory device the instruction level describes: sizes of R80, its buses those of the CPU's ports, with or without a
read/write line (R90, R83), its enable on a fixed source. -/
def MemDevice.wiredOk (p : Ports) (bs : Buses) (d : MemDevice) : Bool :=
  d.sizeOk && (decide (d.addrBus = p.addr) && (decide (d.dataBus = p.data) &&
    ((decide (d.rwBus = none) || decide (d.rwBus = some p.rw)) &&
      (decide ((bs.get d.enBus).kind = .fixedLow) || decide ((bs.get d.enBus).kind = .fixedHigh)))))

/-- An output port's bus: it exists, is standard, and has the port's width (R40, R90). -/
def Buses.outputOk (bs : Buses) (id : BusId) (width : Nat) : Bool :=
  bs.has id && (decide ((bs.get id).kind = .standard) && decide ((bs.get id).width = width))

/-- The buses of the CPU's ports as the instruction level describes them: the four output ports on four standard buses of
the widths of R40, none of them at an input port, and the clock on a divided clock of divisor `CLK_DIV` (R8). -/
def State.portsOk (s : State) : Bool :=
  let p := s.cfg.ports
  decide ((s.buses.get p.clk).kind = .dividedClock s.cfg.clkDiv) &&
    (s.buses.outputOk p.addr 16 && (s.buses.outputOk p.data 8 && (s.buses.outputOk p.rw 1 && (s.buses.outputOk p.sync 1 &&
      (decide p.outputs.Nodup && [p.res, p.nmi, p.irq].all fun id => decide (id ∉ p.outputs))))))

/-- A platform the instruction level describes: `CLK_DIV >= 1` (R8), an evaluation order with the CPU before its memory
devices, in whatever order those stand (R425, U18), its ports and its memory devices as above. -/
def State.platformOk (s : State) : Bool :=
  s.cfg.clockOk && (s.evalOrderOk && (s.portsOk && s.mems.all (MemDevice.wiredOk s.cfg.ports s.buses)))

/-- A tick input the instruction level describes: the clock advances, and the providers write no bus that the CPU drives
(R75, R360). -/
def TickInput.sparesOutputs (p : Ports) (t : TickInput) : Bool :=
  !t.holdClock && t.writes.all fun w => decide (w.1 ∉ p.outputs)

/-- The clock stands as it does just after a rising edge (R434). -/
def State.afterRisingEdge (s : State) : Bool :=
  let clk := s.buses.get s.cfg.ports.clk
  s.cpu.lastClk && (decide (clk.value = 1) && decide (clk.div = 0))

/-- A cycle-0 boundary as `retire` leaves it (R156, R159): `CYC` = 0 and the opcode fetch at `PC` staged. -/
def State.atBoundary (s : State) : Bool :=
  s.cpu.prw && (s.cpu.psync && (decide (s.cpu.cyc = 0) && decide (s.cpu.paddr = s.cpu.pc)))

/-- The states in which one instruction may be taken as one step (R179). -/
def State.instructionLevel (s : State) : Bool :=
  s.atBoundary && (s.afterRisingEdge && (s.platformOk && s.inputs.all (TickInput.sparesOutputs s.cfg.ports)))

/-- Cycle 0 of the next instruction: the staged fetch is on the bus, its byte is sampled, and the arbiter writes `IR`
(R153, R157, R364). -/
def State.cycleZero (s : State) : State :=
  s.clockCycle.withCpu s.clockCycle.cpu.dispatch

/-- The instruction that `IR` selects, with the two bytes after the opcode as memory holds them. -/
def State.selected (s : State) : Option Instr :=
  decodeSelector s.cfg s.cpu.ir (s.peek (s.cpu.pc + 1)) (s.peek (s.cpu.pc + 2))

/-- The output registers' transaction has been stored: redriving it (R154) changes no memory device. It holds after every
clock cycle. -/
def State.settled (s : State) : Bool :=
  decide ((memsCycle s.buses s.cpu.oaddr s.cpu.orw s.cfg.evalOrder s.mems (.start s.cpu.orw s.cpu.odata)).1 = s.mems)

/-- Place bytes where the next opcode fetch reads, with nothing pending and no input coming. -/
def State.placeProgram (bytes : List Byte) (s : State) : State :=
  let s1 := s.loadBytes s.cpu.pc bytes
  { s1 with
    cpu := { s1.cpu with resPend := false, nmiPend := false, cyc := 0, paddr := s1.cpu.pc, prw := true, psync := true }
    inputs := [] }

/-- Make the arbiter select a pseudo-instruction at the next cycle 0: latch the request (R361, R362), or hold the IRQ line
low through the next clock cycle with `P.I` clear (R363). -/
def State.request (sel : Selector) (s : State) : State :=
  let s1 := s.placeProgram []
  if sel = Config.selReset then { s1 with cpu := { s1.cpu with resPend := true } }
  else if sel = Config.selNmi then { s1 with cpu := { s1.cpu with nmiPend := true } }
  else
    { s1 with
      cpu := s1.cpu.setFlag .i false
      inputs := List.replicate (2 * s1.cfg.clkDiv) { writes := [(s1.cfg.ports.res, 1), (s1.cfg.ports.irq, 0)], holdClock := false } }

end Sys2Proof.Machine
end

