-- ==== Sys2Proof/Machine/Sequences.lean ====
section
/-! DEFINITION. The micro-step table of the sequencer: the sequence of every instruction and pseudo-instruction, as the tick
level looks it up by the selector (40_sequencer.md R153, R175). -/

namespace Sys2Proof.Machine

/-- The micro-steps of an instruction; they find its operand bytes in `DBUF`. -/
def sequenceOf (cfg : Config) (i : Instr) : List Micro :=
  match i with
  | .oraInx _ => seqOraInx
  | .oraZp _ => seqOraZp
  | .aslZp _ => seqAslZp
  | .oraImm _ => seqOraImm
  | .oraAbs _ _ => seqOraAbs
  | .aslAbs _ _ => seqAslAbs
  | .bpl _ => seqBpl
  | .oraIny _ => seqOraIny
  | .oraZpx _ => seqOraZpx
  | .aslZpx _ => seqAslZpx
  | .oraAby _ _ => seqOraAby
  | .oraAbx _ _ => seqOraAbx
  | .aslAbx _ _ => seqAslAbx
  | .jsr _ _ => seqJsr cfg
  | .andInx _ => seqAndInx
  | .bitZp _ => seqBitZp
  | .andZp _ => seqAndZp
  | .rolZp _ => seqRolZp
  | .andImm _ => seqAndImm
  | .bitAbs _ _ => seqBitAbs
  | .andAbs _ _ => seqAndAbs
  | .rolAbs _ _ => seqRolAbs
  | .bmi _ => seqBmi
  | .andIny _ => seqAndIny
  | .andZpx _ => seqAndZpx
  | .rolZpx _ => seqRolZpx
  | .andAby _ _ => seqAndAby
  | .andAbx _ _ => seqAndAbx
  | .rolAbx _ _ => seqRolAbx
  | .eorInx _ => seqEorInx
  | .eorZp _ => seqEorZp
  | .lsrZp _ => seqLsrZp
  | .eorImm _ => seqEorImm
  | .jmpAbs _ _ => seqJmpAbs
  | .eorAbs _ _ => seqEorAbs
  | .lsrAbs _ _ => seqLsrAbs
  | .bvc _ => seqBvc
  | .eorIny _ => seqEorIny
  | .eorZpx _ => seqEorZpx
  | .lsrZpx _ => seqLsrZpx
  | .eorAby _ _ => seqEorAby
  | .eorAbx _ _ => seqEorAbx
  | .lsrAbx _ _ => seqLsrAbx
  | .adcInx _ => seqAdcInx
  | .adcZp _ => seqAdcZp
  | .rorZp _ => seqRorZp
  | .adcImm _ => seqAdcImm
  | .jmpInd _ _ => seqJmpInd
  | .adcAbs _ _ => seqAdcAbs
  | .rorAbs _ _ => seqRorAbs
  | .bvs _ => seqBvs
  | .adcIny _ => seqAdcIny
  | .adcZpx _ => seqAdcZpx
  | .rorZpx _ => seqRorZpx
  | .adcAby _ _ => seqAdcAby
  | .adcAbx _ _ => seqAdcAbx
  | .rorAbx _ _ => seqRorAbx
  | .staInx _ => seqStaInx
  | .styZp _ => seqStyZp
  | .staZp _ => seqStaZp
  | .stxZp _ => seqStxZp
  | .styAbs _ _ => seqStyAbs
  | .staAbs _ _ => seqStaAbs
  | .stxAbs _ _ => seqStxAbs
  | .bcc _ => seqBcc
  | .staIny _ => seqStaIny
  | .styZpx _ => seqStyZpx
  | .staZpx _ => seqStaZpx
  | .stxZpy _ => seqStxZpy
  | .staAby _ _ => seqStaAby
  | .staAbx _ _ => seqStaAbx
  | .ldyImm _ => seqLdyImm
  | .ldaInx _ => seqLdaInx
  | .ldxImm _ => seqLdxImm
  | .ldyZp _ => seqLdyZp
  | .ldaZp _ => seqLdaZp
  | .ldxZp _ => seqLdxZp
  | .ldaImm _ => seqLdaImm
  | .ldyAbs _ _ => seqLdyAbs
  | .ldaAbs _ _ => seqLdaAbs
  | .ldxAbs _ _ => seqLdxAbs
  | .bcs _ => seqBcs
  | .ldaIny _ => seqLdaIny
  | .ldyZpx _ => seqLdyZpx
  | .ldaZpx _ => seqLdaZpx
  | .ldxZpy _ => seqLdxZpy
  | .ldaAby _ _ => seqLdaAby
  | .ldyAbx _ _ => seqLdyAbx
  | .ldaAbx _ _ => seqLdaAbx
  | .ldxAby _ _ => seqLdxAby
  | .cpyImm _ => seqCpyImm
  | .cmpInx _ => seqCmpInx
  | .cpyZp _ => seqCpyZp
  | .cmpZp _ => seqCmpZp
  | .decZp _ => seqDecZp
  | .cmpImm _ => seqCmpImm
  | .cpyAbs _ _ => seqCpyAbs
  | .cmpAbs _ _ => seqCmpAbs
  | .decAbs _ _ => seqDecAbs
  | .bne _ => seqBne
  | .cmpIny _ => seqCmpIny
  | .cmpZpx _ => seqCmpZpx
  | .decZpx _ => seqDecZpx
  | .cmpAby _ _ => seqCmpAby
  | .cmpAbx _ _ => seqCmpAbx
  | .decAbx _ _ => seqDecAbx
  | .cpxImm _ => seqCpxImm
  | .sbcInx _ => seqSbcInx
  | .cpxZp _ => seqCpxZp
  | .sbcZp _ => seqSbcZp
  | .incZp _ => seqIncZp
  | .sbcImm _ => seqSbcImm
  | .cpxAbs _ _ => seqCpxAbs
  | .sbcAbs _ _ => seqSbcAbs
  | .incAbs _ _ => seqIncAbs
  | .beq _ => seqBeq
  | .sbcIny _ => seqSbcIny
  | .sbcZpx _ => seqSbcZpx
  | .incZpx _ => seqIncZpx
  | .sbcAby _ _ => seqSbcAby
  | .sbcAbx _ _ => seqSbcAbx
  | .incAbx _ _ => seqIncAbx
  | .brk => seqBrk cfg
  | .php => seqPhp cfg
  | .aslAcc => seqAslAcc
  | .clc => seqClc
  | .plp => seqPlp cfg
  | .rolAcc => seqRolAcc
  | .sec => seqSec
  | .rti => seqRti cfg
  | .pha => seqPha cfg
  | .lsrAcc => seqLsrAcc
  | .cli => seqCli
  | .rts => seqRts cfg
  | .pla => seqPla cfg
  | .rorAcc => seqRorAcc
  | .sei => seqSei
  | .dey => seqDey
  | .txa => seqTxa
  | .tya => seqTya
  | .txs => seqTxs
  | .tay => seqTay
  | .tax => seqTax
  | .clv => seqClv
  | .tsx => seqTsx
  | .iny => seqIny
  | .dex => seqDex
  | .cld => seqCld
  | .inx => seqInx
  | .nop => seqNop
  | .sed => seqSed
  | .unmapped02 => seqUnmapped
  | .unmapped03 => seqUnmapped
  | .unmapped04 => seqUnmapped
  | .unmapped07 => seqUnmapped
  | .unmapped0B => seqUnmapped
  | .unmapped0C => seqUnmapped
  | .unmapped0F => seqUnmapped
  | .unmapped12 => seqUnmapped
  | .unmapped13 => seqUnmapped
  | .unmapped14 => seqUnmapped
  | .unmapped17 => seqUnmapped
  | .unmapped1A => seqUnmapped
  | .unmapped1B => seqUnmapped
  | .unmapped1C => seqUnmapped
  | .unmapped1F => seqUnmapped
  | .unmapped22 => seqUnmapped
  | .unmapped23 => seqUnmapped
  | .unmapped27 => seqUnmapped
  | .unmapped2B => seqUnmapped
  | .unmapped2F => seqUnmapped
  | .unmapped32 => seqUnmapped
  | .unmapped33 => seqUnmapped
  | .unmapped34 => seqUnmapped
  | .unmapped37 => seqUnmapped
  | .unmapped3A => seqUnmapped
  | .unmapped3B => seqUnmapped
  | .unmapped3C => seqUnmapped
  | .unmapped3F => seqUnmapped
  | .unmapped42 => seqUnmapped
  | .unmapped43 => seqUnmapped
  | .unmapped44 => seqUnmapped
  | .unmapped47 => seqUnmapped
  | .unmapped4B => seqUnmapped
  | .unmapped4F => seqUnmapped
  | .unmapped52 => seqUnmapped
  | .unmapped53 => seqUnmapped
  | .unmapped54 => seqUnmapped
  | .unmapped57 => seqUnmapped
  | .unmapped5A => seqUnmapped
  | .unmapped5B => seqUnmapped
  | .unmapped5C => seqUnmapped
  | .unmapped5F => seqUnmapped
  | .unmapped62 => seqUnmapped
  | .unmapped63 => seqUnmapped
  | .unmapped64 => seqUnmapped
  | .unmapped67 => seqUnmapped
  | .unmapped6B => seqUnmapped
  | .unmapped6F => seqUnmapped
  | .unmapped72 => seqUnmapped
  | .unmapped73 => seqUnmapped
  | .unmapped74 => seqUnmapped
  | .unmapped77 => seqUnmapped
  | .unmapped7A => seqUnmapped
  | .unmapped7B => seqUnmapped
  | .unmapped7C => seqUnmapped
  | .unmapped7F => seqUnmapped
  | .unmapped80 => seqUnmapped
  | .unmapped82 => seqUnmapped
  | .unmapped83 => seqUnmapped
  | .unmapped87 => seqUnmapped
  | .unmapped89 => seqUnmapped
  | .unmapped8B => seqUnmapped
  | .unmapped8F => seqUnmapped
  | .unmapped92 => seqUnmapped
  | .unmapped93 => seqUnmapped
  | .unmapped97 => seqUnmapped
  | .unmapped9B => seqUnmapped
  | .unmapped9C => seqUnmapped
  | .unmapped9E => seqUnmapped
  | .unmapped9F => seqUnmapped
  | .unmappedA3 => seqUnmapped
  | .unmappedA7 => seqUnmapped
  | .unmappedAB => seqUnmapped
  | .unmappedAF => seqUnmapped
  | .unmappedB2 => seqUnmapped
  | .unmappedB3 => seqUnmapped
  | .unmappedB7 => seqUnmapped
  | .unmappedBB => seqUnmapped
  | .unmappedBF => seqUnmapped
  | .unmappedC2 => seqUnmapped
  | .unmappedC3 => seqUnmapped
  | .unmappedC7 => seqUnmapped
  | .unmappedCB => seqUnmapped
  | .unmappedCF => seqUnmapped
  | .unmappedD2 => seqUnmapped
  | .unmappedD3 => seqUnmapped
  | .unmappedD4 => seqUnmapped
  | .unmappedD7 => seqUnmapped
  | .unmappedDA => seqUnmapped
  | .unmappedDB => seqUnmapped
  | .unmappedDC => seqUnmapped
  | .unmappedDF => seqUnmapped
  | .unmappedE2 => seqUnmapped
  | .unmappedE3 => seqUnmapped
  | .unmappedE7 => seqUnmapped
  | .unmappedEB => seqUnmapped
  | .unmappedEF => seqUnmapped
  | .unmappedF2 => seqUnmapped
  | .unmappedF3 => seqUnmapped
  | .unmappedF4 => seqUnmapped
  | .unmappedF7 => seqUnmapped
  | .unmappedFA => seqUnmapped
  | .unmappedFB => seqUnmapped
  | .unmappedFC => seqUnmapped
  | .unmappedFF => seqUnmapped
  | .reset => seqReset cfg
  | .nmi => seqNmi cfg
  | .irq => seqIrq cfg

/-- The operand bytes that the clock cycles of an instruction fetch, cycle by cycle (R120): the bytes after the opcode in
order, but for JSR, whose third byte comes last (R281). -/
def operandBytesOf (i : Instr) (s : State) : List (Option Byte) :=
  match i with
  | .jsr b1 b2 => [some b1, none, none, none, s.jsrThirdByte b2]
  | i => (encode i).tail.map some

/-- The bus transactions of an instruction after its opcode fetch, from the state it is dispatched in (R13, R160). -/
def transactions (i : Instr) (s : State) : List Transaction :=
  busFrom 0 (sequenceOf s.cfg i) (operandBytesOf i s) s

end Sys2Proof.Machine
end

