-- ==== Sys2Proof/Machine/Tick.lean ====
section
/-! DEFINITION. The normative level of description (00_scope.md R13): one tick of the driver (20_memory.md R70), the CPU's
`evaluate()` (40_sequencer.md R150 to R155), and the state at power-on (10_state.md R52). -/

namespace Sys2Proof.Machine

/-- Go on with a next state; stop where it stops. -/
def andThen (o : Host.Outcome State Fault Refusal) (f : State → Host.Outcome State Fault Refusal) :
    Host.Outcome State Fault Refusal :=
  match o with
  | .next s => f s
  | .fault r => .fault r
  | .refused r => .refused r

/-- The micro-step sequence of a selector value (R153). -/
def sequenceAt (cfg : Config) (sel : Selector) : List Micro :=
  match decodeSelector cfg sel 0 0 with
  | some i => sequenceOf cfg i
  | none => []

/-- `microstep(IR, CYC)` (R153). -/
def microStep (cfg : Config) (c : Cpu) : MicroEnd :=
  match (sequenceAt cfg c.ir)[c.cyc]? with
  | some u => u c
  | none => .refuse .noMicroStep

/-- `CYC` after a micro-step: 0 if it retired, else one more (R153). -/
def MicroEnd.count (k : Nat) : MicroEnd → MicroEnd
  | .more c => .more { c with cyc := k + 1 }
  | .retired c => .retired { c with cyc := 0 }
  | .refuse r => .refuse r

/-- E6, on a rising edge: sample, dispatch if `CYC = 0`, micro-step, update `CYC` (R153). -/
def Cpu.risingEdge (cfg : Config) (sample : Byte) (c : Cpu) : MicroEnd :=
  let c1 := { c with dbuf := sample }
  let c2 := if c1.cyc = 0 then c1.dispatch else c1
  (microStep cfg c2).count c2.cyc

/-- E7: `ADDR.write(OADDR); RW.write(ORW); SYNC.write(OSYNC); if ORW = 0 then DATA.write(ODATA)`, on the buses of the CPU's
ports (R154). -/
def Buses.driveOutputs (p : Ports) (c : Cpu) (bs : Buses) : Buses :=
  let bs1 := ((bs.modify p.addr (Bus.write c.oaddr.toNat)).modify p.rw (Bus.write c.orw.toNat)).modify p.sync
    (Bus.write c.osync.toNat)
  if c.orw then bs1 else bs1.modify p.data (Bus.write c.odata.toNat)

/-- E7, in every tick: drive the output registers onto the buses (R154). -/
def State.driveOutputs (s : State) : State :=
  { s with buses := s.buses.driveOutputs s.cfg.ports s.cpu }

/-- The CPU's `evaluate()` (R150): E1 to E4, then E5 on a falling edge, E6 on a rising edge, and E7. -/
def State.evaluateCpu (s : State) : Host.Outcome State Fault Refusal :=
  let clk := s.level s.cfg.ports.clk
  let falling := s.cpu.lastClk && !clk
  let rising := !s.cpu.lastClk && clk
  let s1 := s.latchLines
  if falling then .next (s1.withCpu s1.cpu.publish).driveOutputs
  else if rising then
    match s1.cpu.risingEdge s1.cfg (BitVec.ofNat 8 (s1.buses.get s1.cfg.ports.data).last) with
    | .more c => .next (s1.withCpu c).driveOutputs
    | .retired c => .next (s1.withCpu c).driveOutputs
    | .refuse r => .refused r
  else .next s1.driveOutputs

/-- A memory device's `evaluate()` (R82); a device the system does not have does nothing. -/
def State.evaluateMem (k : Nat) (s : State) : State :=
  match s.mems[k]? with
  | none => s
  | some d => { s with mems := s.mems.set k (d.evaluate s.buses).1, buses := (d.evaluate s.buses).2 }

/-- `evaluate()` of one device (R71). -/
def State.evaluate (s : State) : DeviceId → Host.Outcome State Fault Refusal
  | .cpu => s.evaluateCpu
  | .mem k => .next (s.evaluateMem k)

/-- T4: `evaluate()` "on every device exactly once per tick, in an order fixed at assembly time" (R70). -/
def State.evaluateAll (s : State) : List DeviceId → Host.Outcome State Fault Refusal
  | [] => .next s
  | d :: ds => andThen (s.evaluate d) fun s' => s'.evaluateAll ds

/-- One tick, T1 to T4 (R70). -/
def State.tick (s : State) : Host.Outcome State Fault Refusal :=
  s.startTick.evaluateAll s.cfg.evalOrder

/-- `n` ticks, up to the first refusal. -/
def State.ticks : Nat → State → Host.Outcome State Fault Refusal
  | 0, s => .next s
  | n + 1, s => andThen s.tick (State.ticks n)

/-- One tick of a system that the spec allows: an evaluation order that violates R8 and R425 is refused (U18), and so is a
memory device with a data width outside 1..8 (U7). -/
def State.checkedTick (s : State) : Host.Outcome State Fault Refusal :=
  if s.evalOrderOk then
    if s.mems.all MemDevice.widthOk then s.tick else .refused .dataWidth
  else .refused .evalOrder

/-- T5: the buses in conflict after a tick (R70, R74). -/
def State.conflicts (s : State) : List BusId :=
  s.buses.conflicts

/-- The registers that are unspecified at power-on (R52, U11): "a model takes them as arbitrary values". -/
structure Unspecified where
  a : Byte
  x : Byte
  y : Byte
  sp : Byte
  p : Byte
  pc : Word
  dbuf : Byte
  tmp : Byte
  tl : Byte
  ir : Selector
deriving DecidableEq, Repr

/-- The CPU at construction (R52). -/
def Cpu.powerOn (u : Unspecified) : Cpu :=
  { a := u.a, x := u.x, y := u.y, sp := u.sp, p := u.p, pc := u.pc
    paddr := 0#16, pdata := 0#8, prw := true, psync := false
    oaddr := 0#16, odata := 0#8, orw := true, osync := false
    dbuf := u.dbuf, tmp := u.tmp, tl := u.tl, ir := u.ir, cyc := 0
    nmiPend := false, irqPend := false, resPend := false, lastClk := false, lastNmi := false }

/-- The buses of the reference platform at creation (R53, R90). -/
def Buses.referencePlatform (clkDiv : Nat) : Buses :=
  { clk := Bus.new (.dividedClock clkDiv) 1, addr := Bus.new .standard 16, data := Bus.new .standard 8
    rw := Bus.new .standard 1, sync := Bus.new .standard 1, res := Bus.new .standard 1
    nmi := Bus.new .openCollector 1, irq := Bus.new .openCollector 1, gnd := Bus.new .fixedLow 1, aux := [] }

/-- The reference platform at power-on (R52, R90, R422), before any tick: a 64 KiB RAM always enabled, and what the
outside world does from then on. The parameters are free, so a platform that differs in them or in its wiring is this
state with other buses or memory devices. -/
def State.powerOn (cfg : Config) (u : Unspecified) (inputs : List TickInput) : State :=
  { cfg := cfg, cpu := Cpu.powerOn u, buses := Buses.referencePlatform cfg.clkDiv
    mems := [MemDevice.new 16 8 .addr .data .gnd (some .rw)], inputs := inputs }

/-- A tick in which a provider holds the reset line low (R361). -/
def resetInput (p : Ports) : TickInput :=
  { writes := [(p.res, 0)], holdClock := false }

end Sys2Proof.Machine
end

