-- ==== Sys2Proof/Machine/Step.lean ====
section
/-! DEFINITION. One step: one whole instruction or pseudo-instruction, from a cycle-0 boundary to the next, where R179 of
40_sequencer.md lets it be taken as one; in every other state one tick (Machine/Tick.lean), the normative level (R13). -/

namespace Sys2Proof.Machine

/-- From a cycle-0 boundary of a system that R179 covers: the opcode fetch and the selection of cycle 0, then the meaning of
what was selected. From any other state: one tick. -/
def step (s : State) : Host.Outcome State Fault Refusal :=
  if s.instructionLevel then
    match s.cycleZero.selected with
    | some i => exec i s.cycleZero
    | none => .refused .noMicroStep
  else s.checkedTick

/-- The state with an opcode-table row's bits made the next instruction: its bytes stored where the next opcode fetch
reads, nothing pending; for the selector code of a pseudo-instruction, its request made pending (log entries 7 and 8). -/
def State.withFetchWord (s : State) (nbits w : Nat) : State :=
  match tableSelector nbits w with
  | some sel => s.request sel
  | none =>
    let v := w % 2 ^ nbits
    s.placeProgram [tableByte v 0, tableByte v 1, tableByte v 2]

end Sys2Proof.Machine
end

