-- ==== Sys2Proof/Machine/View.lean ====
section
/-! DEFINITION. The words statements are written in: the register file as one value, status bytes with named flags
changed, what an instruction leaves behind when it retires, and which bytes of memory it stored. -/

namespace Sys2Proof.Machine

/-- The register file: "exactly six registers" (R20). -/
structure Regs where
  a : Byte
  x : Byte
  y : Byte
  sp : Byte
  p : Byte
  pc : Word
deriving DecidableEq, Repr

/-- The six registers of the state. -/
def State.regs (s : State) : Regs :=
  { a := s.cpu.a, x := s.cpu.x, y := s.cpu.y, sp := s.cpu.sp, p := s.cpu.p, pc := s.cpu.pc }

/-- A status byte with the listed flags written in order, all other bits as they were. -/
def withFlags (l : List (Flag × Bool)) (p : Byte) : Byte :=
  l.foldl (fun q e => setFlag e.1 e.2 q) p

/-- A status byte after `setNZ(v)` (R32). -/
def withNZ (v p : Byte) : Byte :=
  withFlags [(.z, decide (v = 0#8)), (.n, v.getLsbD 7)] p

/-- What every instruction leaves when it retires after `n` clock cycles (R156, R159, R175): these registers, `CYC` = 0, the
opcode fetch at the new `PC` staged, `IR` and the parameters as they were, and as many ticks of input consumed as `n`
clock cycles have, the first of which (cycle 0) lies before the state the instruction is dispatched in. -/
def Retires (s t : State) (n : Nat) (regs : Regs) : Prop :=
  t.regs = regs ∧ t.cpu.cyc = 0 ∧ t.cpu.paddr = t.cpu.pc ∧ t.cpu.prw = true ∧ t.cpu.psync = true ∧
    t.cpu.ir = s.cpu.ir ∧ t.cfg = s.cfg ∧ t.inputs = s.inputs.drop (2 * s.cfg.clkDiv * (n - 1))

/-- The clock cycles of an instruction of class R with this operand (R175); class W takes as many, class M two more. -/
def Operand.cycles : Operand → Nat
  | .imm _ => 2
  | .zp _ => 3
  | .zpx _ => 4
  | .zpy _ => 4
  | .abs _ _ => 4
  | .abx _ _ => 4
  | .aby _ _ => 4
  | .inx _ => 6
  | .iny _ => 5

/-- Bus cycles 1 to `a` of address formation (the table of R170), all reads; for an immediate, the read of `b1` (R169).
The bytes at the operand's own addresses are the instruction's; the idle re-read shows what memory holds there. -/
def Operand.addressReads (s : State) : Operand → List Transaction
  | .imm b1 => [busRead (s.cpu.pc + 1) b1]
  | .zp b1 => [busRead (s.cpu.pc + 1) b1]
  | .zpx b1 => [busRead (s.cpu.pc + 1) b1, busRead (s.cpu.pc + 1) (s.peek (s.cpu.pc + 1))]
  | .zpy b1 => [busRead (s.cpu.pc + 1) b1, busRead (s.cpu.pc + 1) (s.peek (s.cpu.pc + 1))]
  | .abs b1 b2 => [busRead (s.cpu.pc + 1) b1, busRead (s.cpu.pc + 2) b2]
  | .abx b1 b2 => [busRead (s.cpu.pc + 1) b1, busRead (s.cpu.pc + 2) b2]
  | .aby b1 b2 => [busRead (s.cpu.pc + 1) b1, busRead (s.cpu.pc + 2) b2]
  | .inx b1 =>
    [ busRead (s.cpu.pc + 1) b1, busRead (s.cpu.pc + 1) (s.peek (s.cpu.pc + 1)),
      busRead (zext16 (b1 + s.cpu.x)) (s.peek (zext16 (b1 + s.cpu.x))),
      busRead (zext16 (b1 + s.cpu.x + 1)) (s.peek (zext16 (b1 + s.cpu.x + 1))) ]
  | .iny b1 =>
    [ busRead (s.cpu.pc + 1) b1, busRead (zext16 b1) (s.peek (zext16 b1)),
      busRead (zext16 (b1 + 1)) (s.peek (zext16 (b1 + 1))) ]

/-- The bus cycles of a class R instruction after its opcode fetch (R171, R169): address formation, then the read of `EA`. -/
def Operand.loadReads (s : State) (o : Operand) : List Transaction :=
  o.addressReads s ++
    match o.address s with
    | some ea => [busRead ea (s.peek ea)]
    | none => []

/-- The one bus cycle of a two-cycle instruction after its opcode fetch: the byte after the opcode, discarded (R178). -/
def State.discardedRead (s : State) : Transaction :=
  busRead (s.cpu.pc + 1) (s.peek (s.cpu.pc + 1))

/-- No byte of any memory device changed, nor what any address reads as. -/
def KeepsMemory (s t : State) : Prop :=
  t.mems = s.mems ∧ ∀ addr, t.peek addr = s.peek addr

/-- One memory device as on the reference platform (R90): a RAM of 2^16 bytes of 8 bits, always enabled, evaluated after the
CPU, its array in canonical form. -/
def State.plainRam (s : State) : Bool :=
  match s.mems with
  | [d] =>
    decide (s.cfg.evalOrder = [.cpu, .mem 0]) && decide (d.aw = 16) && decide (d.dw = 8) && d.rwBus.isSome && d.enabled s.buses && Memory.wf d.cells
  | _ => false

/-- The state after the write bus cycles of a list, in order. -/
def State.pokes (l : List (Word × Byte)) (s : State) : State :=
  l.foldl (fun acc e => acc.poke e.1 e.2) s

/-- The memory after an instruction is that of exactly these write bus cycles in this order; on a plain RAM each address
reads as the last byte written to it, and every other address reads as before. -/
def Stores (s t : State) (l : List (Word × Byte)) : Prop :=
  t.mems = (s.pokes l).mems ∧ (∀ addr, t.peek addr = (s.pokes l).peek addr) ∧
    (s.plainRam = true → ∀ addr, t.peek addr = ((l.reverse.lookup addr).getD (s.peek addr)))

end Sys2Proof.Machine
end

