-- ==== Sys2Proof/Machine/Forms.lean ====
section
/-! DEFINITION. The forms of each mnemonic that takes an operand, with the opcode of each (30_encoding.md R124): the lists
that statements about "every form of LDA" range over; and which instructions write which register, flag or memory
(10_state.md R21 to R24, R31). -/

namespace Sys2Proof.Machine

/-- One encoding of a mnemonic: its opcode, the instruction, and the operand in the terms of R121. -/
structure Form where
  opcode : Byte
  instr : Instr
  operand : Operand
deriving DecidableEq, Repr

/-- The forms of LDA with an operand in memory or immediate (R200). -/
def formsLda (b1 b2 : Byte) : List Form :=
  [ ⟨0xA1#8, .ldaInx b1, .inx b1⟩,
    ⟨0xA5#8, .ldaZp b1, .zp b1⟩,
    ⟨0xA9#8, .ldaImm b1, .imm b1⟩,
    ⟨0xAD#8, .ldaAbs b1 b2, .abs b1 b2⟩,
    ⟨0xB1#8, .ldaIny b1, .iny b1⟩,
    ⟨0xB5#8, .ldaZpx b1, .zpx b1⟩,
    ⟨0xB9#8, .ldaAby b1 b2, .aby b1 b2⟩,
    ⟨0xBD#8, .ldaAbx b1 b2, .abx b1 b2⟩ ]

/-- The forms of LDX with an operand in memory or immediate (R201). -/
def formsLdx (b1 b2 : Byte) : List Form :=
  [ ⟨0xA2#8, .ldxImm b1, .imm b1⟩,
    ⟨0xA6#8, .ldxZp b1, .zp b1⟩,
    ⟨0xAE#8, .ldxAbs b1 b2, .abs b1 b2⟩,
    ⟨0xB6#8, .ldxZpy b1, .zpy b1⟩,
    ⟨0xBE#8, .ldxAby b1 b2, .aby b1 b2⟩ ]

/-- The forms of LDY with an operand in memory or immediate (R202). -/
def formsLdy (b1 b2 : Byte) : List Form :=
  [ ⟨0xA0#8, .ldyImm b1, .imm b1⟩,
    ⟨0xA4#8, .ldyZp b1, .zp b1⟩,
    ⟨0xAC#8, .ldyAbs b1 b2, .abs b1 b2⟩,
    ⟨0xB4#8, .ldyZpx b1, .zpx b1⟩,
    ⟨0xBC#8, .ldyAbx b1 b2, .abx b1 b2⟩ ]

/-- The forms of STA with an operand in memory or immediate (R203). -/
def formsSta (b1 b2 : Byte) : List Form :=
  [ ⟨0x81#8, .staInx b1, .inx b1⟩,
    ⟨0x85#8, .staZp b1, .zp b1⟩,
    ⟨0x8D#8, .staAbs b1 b2, .abs b1 b2⟩,
    ⟨0x91#8, .staIny b1, .iny b1⟩,
    ⟨0x95#8, .staZpx b1, .zpx b1⟩,
    ⟨0x99#8, .staAby b1 b2, .aby b1 b2⟩,
    ⟨0x9D#8, .staAbx b1 b2, .abx b1 b2⟩ ]

/-- The forms of STX with an operand in memory or immediate (R204). -/
def formsStx (b1 b2 : Byte) : List Form :=
  [ ⟨0x86#8, .stxZp b1, .zp b1⟩,
    ⟨0x8E#8, .stxAbs b1 b2, .abs b1 b2⟩,
    ⟨0x96#8, .stxZpy b1, .zpy b1⟩ ]

/-- The forms of STY with an operand in memory or immediate (R205). -/
def formsSty (b1 b2 : Byte) : List Form :=
  [ ⟨0x84#8, .styZp b1, .zp b1⟩,
    ⟨0x8C#8, .styAbs b1 b2, .abs b1 b2⟩,
    ⟨0x94#8, .styZpx b1, .zpx b1⟩ ]

/-- The forms of ADC with an operand in memory or immediate (R221). -/
def formsAdc (b1 b2 : Byte) : List Form :=
  [ ⟨0x61#8, .adcInx b1, .inx b1⟩,
    ⟨0x65#8, .adcZp b1, .zp b1⟩,
    ⟨0x69#8, .adcImm b1, .imm b1⟩,
    ⟨0x6D#8, .adcAbs b1 b2, .abs b1 b2⟩,
    ⟨0x71#8, .adcIny b1, .iny b1⟩,
    ⟨0x75#8, .adcZpx b1, .zpx b1⟩,
    ⟨0x79#8, .adcAby b1 b2, .aby b1 b2⟩,
    ⟨0x7D#8, .adcAbx b1 b2, .abx b1 b2⟩ ]

/-- The forms of SBC with an operand in memory or immediate (R222). -/
def formsSbc (b1 b2 : Byte) : List Form :=
  [ ⟨0xE1#8, .sbcInx b1, .inx b1⟩,
    ⟨0xE5#8, .sbcZp b1, .zp b1⟩,
    ⟨0xE9#8, .sbcImm b1, .imm b1⟩,
    ⟨0xED#8, .sbcAbs b1 b2, .abs b1 b2⟩,
    ⟨0xF1#8, .sbcIny b1, .iny b1⟩,
    ⟨0xF5#8, .sbcZpx b1, .zpx b1⟩,
    ⟨0xF9#8, .sbcAby b1 b2, .aby b1 b2⟩,
    ⟨0xFD#8, .sbcAbx b1 b2, .abx b1 b2⟩ ]

/-- The forms of AND with an operand in memory or immediate (R225). -/
def formsAnd (b1 b2 : Byte) : List Form :=
  [ ⟨0x21#8, .andInx b1, .inx b1⟩,
    ⟨0x25#8, .andZp b1, .zp b1⟩,
    ⟨0x29#8, .andImm b1, .imm b1⟩,
    ⟨0x2D#8, .andAbs b1 b2, .abs b1 b2⟩,
    ⟨0x31#8, .andIny b1, .iny b1⟩,
    ⟨0x35#8, .andZpx b1, .zpx b1⟩,
    ⟨0x39#8, .andAby b1 b2, .aby b1 b2⟩,
    ⟨0x3D#8, .andAbx b1 b2, .abx b1 b2⟩ ]

/-- The forms of ORA with an operand in memory or immediate (R226). -/
def formsOra (b1 b2 : Byte) : List Form :=
  [ ⟨0x01#8, .oraInx b1, .inx b1⟩,
    ⟨0x05#8, .oraZp b1, .zp b1⟩,
    ⟨0x09#8, .oraImm b1, .imm b1⟩,
    ⟨0x0D#8, .oraAbs b1 b2, .abs b1 b2⟩,
    ⟨0x11#8, .oraIny b1, .iny b1⟩,
    ⟨0x15#8, .oraZpx b1, .zpx b1⟩,
    ⟨0x19#8, .oraAby b1 b2, .aby b1 b2⟩,
    ⟨0x1D#8, .oraAbx b1 b2, .abx b1 b2⟩ ]

/-- The forms of EOR with an operand in memory or immediate (R227). -/
def formsEor (b1 b2 : Byte) : List Form :=
  [ ⟨0x41#8, .eorInx b1, .inx b1⟩,
    ⟨0x45#8, .eorZp b1, .zp b1⟩,
    ⟨0x49#8, .eorImm b1, .imm b1⟩,
    ⟨0x4D#8, .eorAbs b1 b2, .abs b1 b2⟩,
    ⟨0x51#8, .eorIny b1, .iny b1⟩,
    ⟨0x55#8, .eorZpx b1, .zpx b1⟩,
    ⟨0x59#8, .eorAby b1 b2, .aby b1 b2⟩,
    ⟨0x5D#8, .eorAbx b1 b2, .abx b1 b2⟩ ]

/-- The forms of CMP with an operand in memory or immediate (R228). -/
def formsCmp (b1 b2 : Byte) : List Form :=
  [ ⟨0xC1#8, .cmpInx b1, .inx b1⟩,
    ⟨0xC5#8, .cmpZp b1, .zp b1⟩,
    ⟨0xC9#8, .cmpImm b1, .imm b1⟩,
    ⟨0xCD#8, .cmpAbs b1 b2, .abs b1 b2⟩,
    ⟨0xD1#8, .cmpIny b1, .iny b1⟩,
    ⟨0xD5#8, .cmpZpx b1, .zpx b1⟩,
    ⟨0xD9#8, .cmpAby b1 b2, .aby b1 b2⟩,
    ⟨0xDD#8, .cmpAbx b1 b2, .abx b1 b2⟩ ]

/-- The forms of CPX with an operand in memory or immediate (R229). -/
def formsCpx (b1 b2 : Byte) : List Form :=
  [ ⟨0xE0#8, .cpxImm b1, .imm b1⟩,
    ⟨0xE4#8, .cpxZp b1, .zp b1⟩,
    ⟨0xEC#8, .cpxAbs b1 b2, .abs b1 b2⟩ ]

/-- The forms of CPY with an operand in memory or immediate (R230). -/
def formsCpy (b1 b2 : Byte) : List Form :=
  [ ⟨0xC0#8, .cpyImm b1, .imm b1⟩,
    ⟨0xC4#8, .cpyZp b1, .zp b1⟩,
    ⟨0xCC#8, .cpyAbs b1 b2, .abs b1 b2⟩ ]

/-- The forms of BIT with an operand in memory or immediate (R231). -/
def formsBit (b1 b2 : Byte) : List Form :=
  [ ⟨0x24#8, .bitZp b1, .zp b1⟩,
    ⟨0x2C#8, .bitAbs b1 b2, .abs b1 b2⟩ ]

/-- The forms of ASL with an operand in memory or immediate (R250). -/
def formsAsl (b1 b2 : Byte) : List Form :=
  [ ⟨0x06#8, .aslZp b1, .zp b1⟩,
    ⟨0x0E#8, .aslAbs b1 b2, .abs b1 b2⟩,
    ⟨0x16#8, .aslZpx b1, .zpx b1⟩,
    ⟨0x1E#8, .aslAbx b1 b2, .abx b1 b2⟩ ]

/-- The forms of LSR with an operand in memory or immediate (R251). -/
def formsLsr (b1 b2 : Byte) : List Form :=
  [ ⟨0x46#8, .lsrZp b1, .zp b1⟩,
    ⟨0x4E#8, .lsrAbs b1 b2, .abs b1 b2⟩,
    ⟨0x56#8, .lsrZpx b1, .zpx b1⟩,
    ⟨0x5E#8, .lsrAbx b1 b2, .abx b1 b2⟩ ]

/-- The forms of ROL with an operand in memory or immediate (R252). -/
def formsRol (b1 b2 : Byte) : List Form :=
  [ ⟨0x26#8, .rolZp b1, .zp b1⟩,
    ⟨0x2E#8, .rolAbs b1 b2, .abs b1 b2⟩,
    ⟨0x36#8, .rolZpx b1, .zpx b1⟩,
    ⟨0x3E#8, .rolAbx b1 b2, .abx b1 b2⟩ ]

/-- The forms of ROR with an operand in memory or immediate (R253). -/
def formsRor (b1 b2 : Byte) : List Form :=
  [ ⟨0x66#8, .rorZp b1, .zp b1⟩,
    ⟨0x6E#8, .rorAbs b1 b2, .abs b1 b2⟩,
    ⟨0x76#8, .rorZpx b1, .zpx b1⟩,
    ⟨0x7E#8, .rorAbx b1 b2, .abx b1 b2⟩ ]

/-- The forms of INC with an operand in memory or immediate (R254). -/
def formsInc (b1 b2 : Byte) : List Form :=
  [ ⟨0xE6#8, .incZp b1, .zp b1⟩,
    ⟨0xEE#8, .incAbs b1 b2, .abs b1 b2⟩,
    ⟨0xF6#8, .incZpx b1, .zpx b1⟩,
    ⟨0xFE#8, .incAbx b1 b2, .abx b1 b2⟩ ]

/-- The forms of DEC with an operand in memory or immediate (R255). -/
def formsDec (b1 b2 : Byte) : List Form :=
  [ ⟨0xC6#8, .decZp b1, .zp b1⟩,
    ⟨0xCE#8, .decAbs b1 b2, .abs b1 b2⟩,
    ⟨0xD6#8, .decZpx b1, .zpx b1⟩,
    ⟨0xDE#8, .decAbx b1 b2, .abx b1 b2⟩ ]

/-- The unmapped opcodes (R125) with their placeholders. -/
def formsUnmapped : List (Byte × Instr) :=
  List.flatten (α := Byte × Instr) [
    [(0x02#8, .unmapped02), (0x03#8, .unmapped03), (0x04#8, .unmapped04), (0x07#8, .unmapped07), (0x0B#8, .unmapped0B),
      (0x0C#8, .unmapped0C), (0x0F#8, .unmapped0F)],
    [(0x12#8, .unmapped12), (0x13#8, .unmapped13), (0x14#8, .unmapped14), (0x17#8, .unmapped17), (0x1A#8, .unmapped1A),
      (0x1B#8, .unmapped1B), (0x1C#8, .unmapped1C), (0x1F#8, .unmapped1F)],
    [(0x22#8, .unmapped22), (0x23#8, .unmapped23), (0x27#8, .unmapped27), (0x2B#8, .unmapped2B), (0x2F#8, .unmapped2F)],
    [(0x32#8, .unmapped32), (0x33#8, .unmapped33), (0x34#8, .unmapped34), (0x37#8, .unmapped37), (0x3A#8, .unmapped3A),
      (0x3B#8, .unmapped3B), (0x3C#8, .unmapped3C), (0x3F#8, .unmapped3F)],
    [(0x42#8, .unmapped42), (0x43#8, .unmapped43), (0x44#8, .unmapped44), (0x47#8, .unmapped47), (0x4B#8, .unmapped4B),
      (0x4F#8, .unmapped4F)],
    [(0x52#8, .unmapped52), (0x53#8, .unmapped53), (0x54#8, .unmapped54), (0x57#8, .unmapped57), (0x5A#8, .unmapped5A),
      (0x5B#8, .unmapped5B), (0x5C#8, .unmapped5C), (0x5F#8, .unmapped5F)],
    [(0x62#8, .unmapped62), (0x63#8, .unmapped63), (0x64#8, .unmapped64), (0x67#8, .unmapped67), (0x6B#8, .unmapped6B),
      (0x6F#8, .unmapped6F)],
    [(0x72#8, .unmapped72), (0x73#8, .unmapped73), (0x74#8, .unmapped74), (0x77#8, .unmapped77), (0x7A#8, .unmapped7A),
      (0x7B#8, .unmapped7B), (0x7C#8, .unmapped7C), (0x7F#8, .unmapped7F)],
    [(0x80#8, .unmapped80), (0x82#8, .unmapped82), (0x83#8, .unmapped83), (0x87#8, .unmapped87), (0x89#8, .unmapped89),
      (0x8B#8, .unmapped8B), (0x8F#8, .unmapped8F)],
    [(0x92#8, .unmapped92), (0x93#8, .unmapped93), (0x97#8, .unmapped97), (0x9B#8, .unmapped9B), (0x9C#8, .unmapped9C),
      (0x9E#8, .unmapped9E), (0x9F#8, .unmapped9F)],
    [(0xA3#8, .unmappedA3), (0xA7#8, .unmappedA7), (0xAB#8, .unmappedAB), (0xAF#8, .unmappedAF)],
    [(0xB2#8, .unmappedB2), (0xB3#8, .unmappedB3), (0xB7#8, .unmappedB7), (0xBB#8, .unmappedBB), (0xBF#8, .unmappedBF)],
    [(0xC2#8, .unmappedC2), (0xC3#8, .unmappedC3), (0xC7#8, .unmappedC7), (0xCB#8, .unmappedCB), (0xCF#8, .unmappedCF)],
    [(0xD2#8, .unmappedD2), (0xD3#8, .unmappedD3), (0xD4#8, .unmappedD4), (0xD7#8, .unmappedD7), (0xDA#8, .unmappedDA),
      (0xDB#8, .unmappedDB), (0xDC#8, .unmappedDC), (0xDF#8, .unmappedDF)],
    [(0xE2#8, .unmappedE2), (0xE3#8, .unmappedE3), (0xE7#8, .unmappedE7), (0xEB#8, .unmappedEB), (0xEF#8, .unmappedEF)],
    [(0xF2#8, .unmappedF2), (0xF3#8, .unmappedF3), (0xF4#8, .unmappedF4), (0xF7#8, .unmappedF7), (0xFA#8, .unmappedFA),
      (0xFB#8, .unmappedFB), (0xFC#8, .unmappedFC), (0xFF#8, .unmappedFF)] ]

/-- "Written by LDA, PLA, TXA, TYA, ADC, SBC, AND, ORA, EOR, and by ASL, LSR, ROL, ROR in accumulator mode; cleared by RESET"
(R21). -/
def writesA : Instr → Bool
  | .oraInx _ => true
  | .oraZp _ => true
  | .oraImm _ => true
  | .oraAbs _ _ => true
  | .oraIny _ => true
  | .oraZpx _ => true
  | .oraAby _ _ => true
  | .oraAbx _ _ => true
  | .andInx _ => true
  | .andZp _ => true
  | .andImm _ => true
  | .andAbs _ _ => true
  | .andIny _ => true
  | .andZpx _ => true
  | .andAby _ _ => true
  | .andAbx _ _ => true
  | .eorInx _ => true
  | .eorZp _ => true
  | .eorImm _ => true
  | .eorAbs _ _ => true
  | .eorIny _ => true
  | .eorZpx _ => true
  | .eorAby _ _ => true
  | .eorAbx _ _ => true
  | .adcInx _ => true
  | .adcZp _ => true
  | .adcImm _ => true
  | .adcAbs _ _ => true
  | .adcIny _ => true
  | .adcZpx _ => true
  | .adcAby _ _ => true
  | .adcAbx _ _ => true
  | .ldaInx _ => true
  | .ldaZp _ => true
  | .ldaImm _ => true
  | .ldaAbs _ _ => true
  | .ldaIny _ => true
  | .ldaZpx _ => true
  | .ldaAby _ _ => true
  | .ldaAbx _ _ => true
  | .sbcInx _ => true
  | .sbcZp _ => true
  | .sbcImm _ => true
  | .sbcAbs _ _ => true
  | .sbcIny _ => true
  | .sbcZpx _ => true
  | .sbcAby _ _ => true
  | .sbcAbx _ _ => true
  | .aslAcc => true
  | .rolAcc => true
  | .lsrAcc => true
  | .pla => true
  | .rorAcc => true
  | .txa => true
  | .tya => true
  | .reset => true
  | _ => false

/-- "Written by LDX, TAX, TSX, INX, DEX; cleared by RESET" (R22). -/
def writesX : Instr → Bool
  | .ldxImm _ => true
  | .ldxZp _ => true
  | .ldxAbs _ _ => true
  | .ldxZpy _ => true
  | .ldxAby _ _ => true
  | .tax => true
  | .tsx => true
  | .dex => true
  | .inx => true
  | .reset => true
  | _ => false

/-- "Written by LDY, TAY, INY, DEY; cleared by RESET" (R23). -/
def writesY : Instr → Bool
  | .ldyImm _ => true
  | .ldyZp _ => true
  | .ldyAbs _ _ => true
  | .ldyZpx _ => true
  | .ldyAbx _ _ => true
  | .dey => true
  | .tay => true
  | .iny => true
  | .reset => true
  | _ => false

/-- "Written by RESET (to 0xFF), TXS, every push and every pull" (R24). -/
def writesSp : Instr → Bool
  | .jsr _ _ => true
  | .brk => true
  | .php => true
  | .plp => true
  | .rti => true
  | .pha => true
  | .rts => true
  | .pla => true
  | .txs => true
  | .reset => true
  | .nmi => true
  | .irq => true
  | _ => false

/-- The writers of `P.N` and `P.Z` in the table of R31 ("same instructions as N"). -/
def writesNZ : Instr → Bool
  | .oraInx _ => true
  | .oraZp _ => true
  | .aslZp _ => true
  | .oraImm _ => true
  | .oraAbs _ _ => true
  | .aslAbs _ _ => true
  | .oraIny _ => true
  | .oraZpx _ => true
  | .aslZpx _ => true
  | .oraAby _ _ => true
  | .oraAbx _ _ => true
  | .aslAbx _ _ => true
  | .andInx _ => true
  | .bitZp _ => true
  | .andZp _ => true
  | .rolZp _ => true
  | .andImm _ => true
  | .bitAbs _ _ => true
  | .andAbs _ _ => true
  | .rolAbs _ _ => true
  | .andIny _ => true
  | .andZpx _ => true
  | .rolZpx _ => true
  | .andAby _ _ => true
  | .andAbx _ _ => true
  | .rolAbx _ _ => true
  | .eorInx _ => true
  | .eorZp _ => true
  | .lsrZp _ => true
  | .eorImm _ => true
  | .eorAbs _ _ => true
  | .lsrAbs _ _ => true
  | .eorIny _ => true
  | .eorZpx _ => true
  | .lsrZpx _ => true
  | .eorAby _ _ => true
  | .eorAbx _ _ => true
  | .lsrAbx _ _ => true
  | .adcInx _ => true
  | .adcZp _ => true
  | .rorZp _ => true
  | .adcImm _ => true
  | .adcAbs _ _ => true
  | .rorAbs _ _ => true
  | .adcIny _ => true
  | .adcZpx _ => true
  | .rorZpx _ => true
  | .adcAby _ _ => true
  | .adcAbx _ _ => true
  | .rorAbx _ _ => true
  | .ldyImm _ => true
  | .ldaInx _ => true
  | .ldxImm _ => true
  | .ldyZp _ => true
  | .ldaZp _ => true
  | .ldxZp _ => true
  | .ldaImm _ => true
  | .ldyAbs _ _ => true
  | .ldaAbs _ _ => true
  | .ldxAbs _ _ => true
  | .ldaIny _ => true
  | .ldyZpx _ => true
  | .ldaZpx _ => true
  | .ldxZpy _ => true
  | .ldaAby _ _ => true
  | .ldyAbx _ _ => true
  | .ldaAbx _ _ => true
  | .ldxAby _ _ => true
  | .cpyImm _ => true
  | .cmpInx _ => true
  | .cpyZp _ => true
  | .cmpZp _ => true
  | .decZp _ => true
  | .cmpImm _ => true
  | .cpyAbs _ _ => true
  | .cmpAbs _ _ => true
  | .decAbs _ _ => true
  | .cmpIny _ => true
  | .cmpZpx _ => true
  | .decZpx _ => true
  | .cmpAby _ _ => true
  | .cmpAbx _ _ => true
  | .decAbx _ _ => true
  | .cpxImm _ => true
  | .sbcInx _ => true
  | .cpxZp _ => true
  | .sbcZp _ => true
  | .incZp _ => true
  | .sbcImm _ => true
  | .cpxAbs _ _ => true
  | .sbcAbs _ _ => true
  | .incAbs _ _ => true
  | .sbcIny _ => true
  | .sbcZpx _ => true
  | .incZpx _ => true
  | .sbcAby _ _ => true
  | .sbcAbx _ _ => true
  | .incAbx _ _ => true
  | .aslAcc => true
  | .plp => true
  | .rolAcc => true
  | .rti => true
  | .lsrAcc => true
  | .pla => true
  | .rorAcc => true
  | .dey => true
  | .txa => true
  | .tya => true
  | .tay => true
  | .tax => true
  | .tsx => true
  | .iny => true
  | .dex => true
  | .inx => true
  | .reset => true
  | _ => false

/-- The writers of `P.V` in the table of R31. -/
def writesV : Instr → Bool
  | .bitZp _ => true
  | .bitAbs _ _ => true
  | .adcInx _ => true
  | .adcZp _ => true
  | .adcImm _ => true
  | .adcAbs _ _ => true
  | .adcIny _ => true
  | .adcZpx _ => true
  | .adcAby _ _ => true
  | .adcAbx _ _ => true
  | .sbcInx _ => true
  | .sbcZp _ => true
  | .sbcImm _ => true
  | .sbcAbs _ _ => true
  | .sbcIny _ => true
  | .sbcZpx _ => true
  | .sbcAby _ _ => true
  | .sbcAbx _ _ => true
  | .plp => true
  | .rti => true
  | .clv => true
  | .reset => true
  | _ => false

/-- The writers of `P.B` and bit 5 in the table of R31. -/
def writesB : Instr → Bool
  | .plp => true
  | .rti => true
  | .reset => true
  | _ => false

/-- The writers of `P.D` in the table of R31. -/
def writesD : Instr → Bool
  | .plp => true
  | .rti => true
  | .cld => true
  | .sed => true
  | .reset => true
  | _ => false

/-- The writers of `P.I` in the table of R31. -/
def writesI : Instr → Bool
  | .brk => true
  | .plp => true
  | .rti => true
  | .cli => true
  | .sei => true
  | .reset => true
  | .nmi => true
  | .irq => true
  | _ => false

/-- The writers of `P.C` in the table of R31. -/
def writesC : Instr → Bool
  | .aslZp _ => true
  | .aslAbs _ _ => true
  | .aslZpx _ => true
  | .aslAbx _ _ => true
  | .rolZp _ => true
  | .rolAbs _ _ => true
  | .rolZpx _ => true
  | .rolAbx _ _ => true
  | .lsrZp _ => true
  | .lsrAbs _ _ => true
  | .lsrZpx _ => true
  | .lsrAbx _ _ => true
  | .adcInx _ => true
  | .adcZp _ => true
  | .rorZp _ => true
  | .adcImm _ => true
  | .adcAbs _ _ => true
  | .rorAbs _ _ => true
  | .adcIny _ => true
  | .adcZpx _ => true
  | .rorZpx _ => true
  | .adcAby _ _ => true
  | .adcAbx _ _ => true
  | .rorAbx _ _ => true
  | .cpyImm _ => true
  | .cmpInx _ => true
  | .cpyZp _ => true
  | .cmpZp _ => true
  | .cmpImm _ => true
  | .cpyAbs _ _ => true
  | .cmpAbs _ _ => true
  | .cmpIny _ => true
  | .cmpZpx _ => true
  | .cmpAby _ _ => true
  | .cmpAbx _ _ => true
  | .cpxImm _ => true
  | .sbcInx _ => true
  | .cpxZp _ => true
  | .sbcZp _ => true
  | .sbcImm _ => true
  | .cpxAbs _ _ => true
  | .sbcAbs _ _ => true
  | .sbcIny _ => true
  | .sbcZpx _ => true
  | .sbcAby _ _ => true
  | .sbcAbx _ _ => true
  | .aslAcc => true
  | .clc => true
  | .plp => true
  | .rolAcc => true
  | .sec => true
  | .rti => true
  | .lsrAcc => true
  | .rorAcc => true
  | .reset => true
  | _ => false

/-- The writers of a flag (R31). -/
def writesFlag : Flag → Instr → Bool
  | .n => writesNZ
  | .z => writesNZ
  | .v => writesV
  | .b => writesB
  | .d => writesD
  | .i => writesI
  | .c => writesC

/-- The instructions with a write cycle: class W (R172), class M on memory (R173), the pushes (R281, R300, R301, R340, R366, R367). -/
def writesMemory : Instr → Bool
  | .aslZp _ => true
  | .aslAbs _ _ => true
  | .aslZpx _ => true
  | .aslAbx _ _ => true
  | .jsr _ _ => true
  | .rolZp _ => true
  | .rolAbs _ _ => true
  | .rolZpx _ => true
  | .rolAbx _ _ => true
  | .lsrZp _ => true
  | .lsrAbs _ _ => true
  | .lsrZpx _ => true
  | .lsrAbx _ _ => true
  | .rorZp _ => true
  | .rorAbs _ _ => true
  | .rorZpx _ => true
  | .rorAbx _ _ => true
  | .staInx _ => true
  | .styZp _ => true
  | .staZp _ => true
  | .stxZp _ => true
  | .styAbs _ _ => true
  | .staAbs _ _ => true
  | .stxAbs _ _ => true
  | .staIny _ => true
  | .styZpx _ => true
  | .staZpx _ => true
  | .stxZpy _ => true
  | .staAby _ _ => true
  | .staAbx _ _ => true
  | .decZp _ => true
  | .decAbs _ _ => true
  | .decZpx _ => true
  | .decAbx _ _ => true
  | .incZp _ => true
  | .incAbs _ _ => true
  | .incZpx _ => true
  | .incAbx _ _ => true
  | .brk => true
  | .php => true
  | .pha => true
  | .nmi => true
  | .irq => true
  | _ => false

/-- The instructions that read `P.D` for the refusal test: ADC and SBC (R31, R224). -/
def readsDecimal : Instr → Bool
  | .adcInx _ => true
  | .adcZp _ => true
  | .adcImm _ => true
  | .adcAbs _ _ => true
  | .adcIny _ => true
  | .adcZpx _ => true
  | .adcAby _ _ => true
  | .adcAbx _ _ => true
  | .sbcInx _ => true
  | .sbcZp _ => true
  | .sbcImm _ => true
  | .sbcAbs _ _ => true
  | .sbcIny _ => true
  | .sbcZpx _ => true
  | .sbcAby _ _ => true
  | .sbcAbx _ _ => true
  | _ => false

end Sys2Proof.Machine
end

