-- ==== Sys2Proof/Safety.lean ====
section
/-! DEFINITION. What counts as a safe run, in the terms claims use, and the invariant of the machine at instruction
boundaries. -/

namespace Sys2Proof.Machine

/-- Every bus is as R53 allows it: its value masked, a divided clock's tick counter below its divisor. -/
def Buses.wf (bs : Buses) : Bool :=
  bs.ids.all fun id => (bs.get id).wf

/-- `P[5] = 1` and `P[4] = 1` (R39). -/
def State.statusOk (s : State) : Bool :=
  s.cpu.p.getLsbD 5 && s.cpu.p.getLsbD 4

/-- Every memory device's array is canonical and within its size (R54). -/
def State.arraysOk (s : State) : Bool :=
  s.mems.all MemDevice.arrayOk

/-- What holds at every instruction boundary of a run on a platform the spec defines: one instruction may be taken as one
step (R179), the last write cycle has been stored (R92), buses and arrays are well-formed (R53, R54), and the two upper
bits of the status byte are set (R39). -/
def State.inv (s : State) : Bool :=
  s.instructionLevel && s.settled && s.buses.wf && s.arraysOk && s.statusOk

/-- One memory device, wired to the CPU's ports as on the reference platform (R90). -/
def State.referenceRam (s : State) : Bool :=
  s.plainRam && s.mems.all fun d =>
    decide (d.addrBus = s.cfg.ports.addr) && decide (d.dataBus = s.cfg.ports.data) && decide (d.rwBus = some s.cfg.ports.rw)

/-- The micro-step that `CYC` numbers is one of the selected sequence, or the next one is a cycle 0 (R44, R45). -/
def State.sequencerOk (s : State) : Bool :=
  decide (s.cpu.cyc = 0) || decide (s.cpu.cyc < (sequenceAt s.cfg s.cpu.ir).length)

/-- What E7 leaves on the buses when the output ports are four different buses (R154): each written once with the output
registers of `t`, `DATA` in a write cycle only, and every other bus as it was in `s`. -/
def DrivesOutputs (s t : State) : Prop :=
  let p := s.cfg.ports
  t.buses.get p.addr = (s.buses.get p.addr).write t.cpu.oaddr.toNat ∧
  t.buses.get p.rw = (s.buses.get p.rw).write t.cpu.orw.toNat ∧
  t.buses.get p.sync = (s.buses.get p.sync).write t.cpu.osync.toNat ∧
  t.buses.get p.data =
    (if t.cpu.orw then s.buses.get p.data else (s.buses.get p.data).write t.cpu.odata.toNat) ∧
  ∀ id, id ∉ p.outputs → t.buses.get id = s.buses.get id

/-- A step that does not stop. -/
def Continues (s : State) : Prop :=
  ∃ t, step s = .next t

/-- A safe run of `k` steps: none of them stops. The one thing that stops a run from an invariant state is an ADC or SBC
while `P.D = 1` (R224, R433). -/
def SafeRun (k : Nat) (s : State) : Prop :=
  ∃ t, Host.Core.run core k s = .next t

end Sys2Proof.Machine
end

