-- ==== Sys2Proof/Certificates/Slice0/Obligations.lean ====
section
/-! DEFINITION. The statements for the provers. In the instruction statements `Retires s t n regs` says what a completed
instruction leaves in every register and in the sequencer, after `n` clock cycles; `KeepsMemory s t` that no byte of any
memory device changed; `Stores s t l` that exactly the write bus cycles `l` reached memory, every other address of a plain
RAM reading as before; `transactions i s` is the ordered list of bus transactions after the opcode fetch.

Statements of basis `derived` rest in part on what spec/92_eei_decisions.md marks as the spec's own choice, and name it: in
every instruction statement the opcode values, mnemonics and operand modes are D1, the bus cycles and their count D12, the
status layout D2, the stack page D4, address wrap-around D28; what is more is named at the statement. -/

open Sys2Proof Sys2Proof.Machine

/-! ### The state after reset, one step, the invariant -/

/-- The reset state holds the values of R51 and R420. The clauses on `tmp`, the output registers and the trackers that the
spec's boot run does not fix are the model's choice (log entries 3 and 4) and are not part of this statement. -/
def Obligations.ResetStateHoldsResetValues : Prop :=
  State.reset.regs = { a := 0, x := 0, y := 0, sp := 0xFF, p := 0x30, pc := State.reset.peek16 Config.default.resetVector } ∧
    State.reset.cfg = Config.default ∧ State.reset.cpu.resPend = false ∧ State.reset.cpu.cyc = 0 ∧
    State.reset.cpu.paddr = State.reset.cpu.pc ∧ State.reset.cpu.prw = true ∧ State.reset.cpu.psync = true ∧
    State.reset.cpu.ir = Config.selReset ∧
    State.reset.cpu.tl = State.reset.peek Config.default.resetVector ∧
    State.reset.cpu.dbuf = State.reset.peek (Config.default.resetVector + 1)

/-- The reset state satisfies the invariant. -/
def Obligations.ResetStateSatisfiesInvariant : Prop :=
  State.reset.inv = true

/-- Every step from a state of the invariant that answers a next state answers one of the invariant: a boundary of R179
again, on a platform R8 and R80 allow, with the last write stored (R92), buses and arrays well-formed (R53, R54) and
`P[5:4]` = 11 (R39) (choices: that this is the right invariant is the model's inference from R179). -/
def Obligations.StepKeepsInvariant : Prop :=
  ∀ s t : State, s.inv = true → step s = .next t → t.inv = true

/-- Nothing halts the machine. From a state of the invariant a step answers a next state, unless it runs ADC or SBC while
`P.D` = 1 (R224). From a state of an allowed system to which R179 does not apply a step is one tick (R13), every tick
completes (R73, R369) but for an ADC or SBC that meets `P.D` = 1, and leaves `CYC` within the selected sequence (R45); an
evaluation order or a data width that U18 and U7 leave to refusal is refused (choices: D20, D26; that the instruction level
may stand for the ticks, and a tick for a step elsewhere, is log entry 1). -/
def Obligations.MachineStopsOnlyInDecimalMode : Prop :=
  (∀ s : State, s.inv = true →
    Continues s ∨
      (step s = .refused .decimalMode ∧ getFlag .d s.cpu.p = true ∧
        ∃ i, s.cycleZero.selected = some i ∧ readsDecimal i = true)) ∧
  (∀ s : State, s.instructionLevel = false → s.evalOrderOk = true → s.mems.all MemDevice.widthOk = true →
    step s = s.tick) ∧
  (∀ s : State, s.evalOrderOk = true → s.sequencerOk = true →
    (∃ t, s.tick = .next t ∧ t.sequencerOk = true) ∨
      (s.tick = .refused .decimalMode ∧ getFlag .d s.cpu.p = true ∧ s.cpu.cyc ≠ 0 ∧
        ∃ i, decodeSelector s.cfg s.cpu.ir 0 0 = some i ∧ readsDecimal i = true)) ∧
  (∀ s : State, s.evalOrderOk = false → step s = .refused .evalOrder) ∧
  (∀ s : State, s.evalOrderOk = true → s.mems.all MemDevice.widthOk = false → step s = .refused .dataWidth)

/-- When nothing is pending and the bytes at `PC` decode to `i`, a step is cycle 0 followed by `i`: the registers and memory
are those at the boundary, `IR` holds the opcode, and what the step answers is what `exec` answers. -/
def Obligations.StepRunsTheDecodedInstruction : Prop :=
  ∀ (s : State) (i : Instr) (rest : List Byte),
    s.instructionLevel = true → s.cfg.optable = [] →
    s.clockCycle.cpu.resPend = false → s.clockCycle.cpu.nmiPend = false → s.clockCycle.cpu.irqPend = false →
    decode [s.peek s.cpu.pc, s.peek (s.cpu.pc + 1), s.peek (s.cpu.pc + 2)] = .ok (i, rest) →
    step s = exec i s.cycleZero ∧
      s.cycleZero.regs = s.regs ∧ s.cycleZero.cpu.ir = (s.peek s.cpu.pc).setWidth 9 ∧ s.cycleZero.cpu.cyc = 0 ∧
      KeepsMemory s s.cycleZero ∧ s.cycleZero.cfg = s.cfg ∧
      s.cycleZero.inputs = s.inputs.drop (2 * s.cfg.clkDiv)

/-- The arbiter at cycle 0 (R364, R157): reset, then NMI, then IRQ, then the byte just fetched; the losers stay pending, at a
rising edge with `CYC` other than 0 nothing is selected, and an NMI that a RESET passed over is selected right after it
(choices: the selector codes are D23; that one step is one whole instruction, which clauses 2 and 4 rest on, is R179's
derivation and log entry 1). -/
def Obligations.ArbiterSelectsByPriority : Prop :=
  (∀ c : Cpu,
    (c.resPend = true → c.dispatch.ir = Config.selReset) ∧
    (c.resPend = false → c.nmiPend = true → c.dispatch.ir = Config.selNmi) ∧
    (c.resPend = false → c.nmiPend = false → c.irqPend = true → c.dispatch.ir = Config.selIrq) ∧
    (c.resPend = false → c.nmiPend = false → c.irqPend = false → c.dispatch.ir = c.dbuf.setWidth 9) ∧
    c.dispatch.resPend = c.resPend ∧ c.dispatch.nmiPend = c.nmiPend ∧ c.dispatch.irqPend = c.irqPend) ∧
  (∀ s : State, s.instructionLevel = true →
    (s.clockCycle.cpu.resPend = true → step s = exec .reset s.cycleZero) ∧
    (s.clockCycle.cpu.resPend = false → s.clockCycle.cpu.nmiPend = true → step s = exec .nmi s.cycleZero) ∧
    (s.clockCycle.cpu.resPend = false → s.clockCycle.cpu.nmiPend = false → s.clockCycle.cpu.irqPend = true →
      step s = exec .irq s.cycleZero)) ∧
  (∀ (cfg : Config) (v : Byte) (c c' : Cpu), c.cyc ≠ 0 →
    (c.risingEdge cfg v = .more c' ∨ c.risingEdge cfg v = .retired c') → c'.ir = c.ir) ∧
  (∀ s t : State, exec .reset s = .next t → s.cpu.nmiPend = true →
    t.cpu.nmiPend = true ∧ (t.clockCycle.cpu.resPend = false → t.cycleZero.cpu.ir = Config.selNmi))

/-! ### Loads and stores -/

/-- LDA in its eight forms (R200). -/
def Obligations.LdaLoadsAccumulator : Prop :=
  ∀ (s : State) (b1 b2 : Byte), ∀ f ∈ formsLda b1 b2, decodeOpcode f.opcode b1 b2 = f.instr ∧
    ∃ t, exec f.instr s = .next t ∧
      Retires s t f.operand.cycles
        { s.regs with
          a := f.operand.value s
          p := withNZ (f.operand.value s) s.cpu.p
          pc := s.cpu.pc + f.operand.length } ∧
      KeepsMemory s t ∧ transactions f.instr s = f.operand.loadReads s

/-- LDX and LDY in their five forms each (R201, R202). -/
def Obligations.LdxLdyLoadIndexRegisters : Prop :=
  ∀ (s : State) (b1 b2 : Byte),
    ∀ g ∈ [ (formsLdx b1 b2, fun v : Byte => { s.regs with x := v }),
            (formsLdy b1 b2, fun v => { s.regs with y := v }) ],
      ∀ f ∈ g.1, decodeOpcode f.opcode b1 b2 = f.instr ∧
        let v := f.operand.value s
        ∃ t, exec f.instr s = .next t ∧
          Retires s t f.operand.cycles { g.2 v with p := withNZ v s.cpu.p, pc := s.cpu.pc + f.operand.length } ∧
          KeepsMemory s t ∧ transactions f.instr s = f.operand.loadReads s

/-- STA in its seven forms (R203): one write of `A` at the effective address, nothing else but `PC`. -/
def Obligations.StaStoresAccumulator : Prop :=
  ∀ (s : State) (b1 b2 : Byte), ∀ f ∈ formsSta b1 b2, decodeOpcode f.opcode b1 b2 = f.instr ∧
    ∃ t ea, f.operand.address s = some ea ∧ exec f.instr s = .next t ∧
      Retires s t f.operand.cycles { s.regs with pc := s.cpu.pc + f.operand.length } ∧
      Stores s t [(ea, s.cpu.a)] ∧
      transactions f.instr s = f.operand.addressReads s ++ [busWrite ea s.cpu.a]

/-- STX and STY in their three forms each (R204, R205). -/
def Obligations.StxStyStoreIndexRegisters : Prop :=
  ∀ (s : State) (b1 b2 : Byte),
    ∀ g ∈ [(formsStx b1 b2, s.cpu.x), (formsSty b1 b2, s.cpu.y)],
      ∀ f ∈ g.1, decodeOpcode f.opcode b1 b2 = f.instr ∧
        ∃ t ea, f.operand.address s = some ea ∧ exec f.instr s = .next t ∧
          Retires s t f.operand.cycles { s.regs with pc := s.cpu.pc + f.operand.length } ∧
          Stores s t [(ea, g.2)] ∧
          transactions f.instr s = f.operand.addressReads s ++ [busWrite ea g.2]

/-! ### Arithmetic, logic, compare -/

/-- ADC in its eight forms (R221): with `P.D` = 0 the sum, carry out, overflow, Z and N from the operands alone; with `P.D`
= 1 the step is refused (choices: the refusal is D20). -/
def Obligations.AdcAddsWithCarry : Prop :=
  ∀ (s : State) (b1 b2 : Byte), ∀ f ∈ formsAdc b1 b2,
    decodeOpcode f.opcode b1 b2 = f.instr ∧
    (getFlag .d s.cpu.p = true → exec f.instr s = .refused .decimalMode) ∧
    (getFlag .d s.cpu.p = false →
    let m := f.operand.value s
    let sum := s.cpu.a.toNat + m.toNat + (getFlag .c s.cpu.p).toNat
    let r := BitVec.ofNat 8 sum
    ∃ t, exec f.instr s = .next t ∧
      Retires s t f.operand.cycles
        { s.regs with
          a := r
          p := withFlags
            [ (.c, decide (0x100 ≤ sum)),
              (.v, decide (s.cpu.a.getLsbD 7 = m.getLsbD 7 ∧ r.getLsbD 7 ≠ s.cpu.a.getLsbD 7)),
              (.z, decide (r = 0#8)), (.n, r.getLsbD 7) ] s.cpu.p
          pc := s.cpu.pc + f.operand.length } ∧
      KeepsMemory s t ∧ transactions f.instr s = f.operand.loadReads s)

/-- SBC in its eight forms (R222): with `P.D` = 0 the difference with borrow 1 - C, carry set iff `A >= M + (1 - C)`,
overflow on the complemented operand; with `P.D` = 1 the step is refused (choices: the complement reading is D21, the refusal
D20). -/
def Obligations.SbcSubtractsWithBorrow : Prop :=
  ∀ (s : State) (b1 b2 : Byte), ∀ f ∈ formsSbc b1 b2,
    decodeOpcode f.opcode b1 b2 = f.instr ∧
    (getFlag .d s.cpu.p = true → exec f.instr s = .refused .decimalMode) ∧
    (getFlag .d s.cpu.p = false →
    let m := f.operand.value s
    let borrow := (!getFlag .c s.cpu.p).toNat
    let r := s.cpu.a - m - BitVec.ofNat 8 borrow
    ∃ t, exec f.instr s = .next t ∧
      Retires s t f.operand.cycles
        { s.regs with
          a := r
          p := withFlags
            [ (.c, decide (m.toNat + borrow ≤ s.cpu.a.toNat)),
              (.v, decide (s.cpu.a.getLsbD 7 ≠ m.getLsbD 7 ∧ r.getLsbD 7 ≠ s.cpu.a.getLsbD 7)),
              (.z, decide (r = 0#8)), (.n, r.getLsbD 7) ] s.cpu.p
          pc := s.cpu.pc + f.operand.length } ∧
      KeepsMemory s t ∧ transactions f.instr s = f.operand.loadReads s)

/-- While `P.D` = 1 every form of ADC and SBC is refused, and no other instruction is ever refused, in any state (R224)
(choices: D20). -/
def Obligations.OnlyDecimalAdcAndSbcAreRefused : Prop :=
  (∀ (s : State) (b1 b2 : Byte), getFlag .d s.cpu.p = true → ∀ f ∈ formsAdc b1 b2 ++ formsSbc b1 b2,
    exec f.instr s = .refused .decimalMode) ∧
  (∀ (i : Instr) (s : State), readsDecimal i = false ∨ getFlag .d s.cpu.p = false → ∃ t, exec i s = .next t)

/-- AND, ORA, EOR in their eight forms each (R225, R226, R227). -/
def Obligations.LogicCombinesIntoAccumulator : Prop :=
  ∀ (s : State) (b1 b2 : Byte),
    ∀ g ∈ [ (formsAnd b1 b2, fun a m : Byte => a &&& m), (formsOra b1 b2, fun a m => a ||| m),
            (formsEor b1 b2, fun a m => a ^^^ m) ],
      ∀ f ∈ g.1, decodeOpcode f.opcode b1 b2 = f.instr ∧
        let r := g.2 s.cpu.a (f.operand.value s)
        ∃ t, exec f.instr s = .next t ∧
          Retires s t f.operand.cycles
            { s.regs with a := r, p := withNZ r s.cpu.p, pc := s.cpu.pc + f.operand.length } ∧
          KeepsMemory s t ∧ transactions f.instr s = f.operand.loadReads s

/-- CMP, CPX, CPY (R228, R229, R230): the flags of register minus operand; V, D and every register as they were (choices: that
V is not written is D21). -/
def Obligations.CompareSetsFlagsOnly : Prop :=
  ∀ (s : State) (b1 b2 : Byte),
    ∀ g ∈ [(formsCmp b1 b2, s.cpu.a), (formsCpx b1 b2, s.cpu.x), (formsCpy b1 b2, s.cpu.y)],
      ∀ f ∈ g.1, decodeOpcode f.opcode b1 b2 = f.instr ∧
        let m := f.operand.value s
        ∃ t, exec f.instr s = .next t ∧
          Retires s t f.operand.cycles
            { s.regs with
              p := withFlags
                [(.c, decide (m.toNat ≤ g.2.toNat)), (.z, decide (g.2 = m)), (.n, (g.2 - m).getLsbD 7)] s.cpu.p
              pc := s.cpu.pc + f.operand.length } ∧
          KeepsMemory s t ∧ transactions f.instr s = f.operand.loadReads s

/-- BIT in its two forms (R231). -/
def Obligations.BitTestsOperand : Prop :=
  ∀ (s : State) (b1 b2 : Byte), ∀ f ∈ formsBit b1 b2, decodeOpcode f.opcode b1 b2 = f.instr ∧
    let m := f.operand.value s
    ∃ t, exec f.instr s = .next t ∧
      Retires s t f.operand.cycles
        { s.regs with
          p := withFlags [(.z, decide (s.cpu.a &&& m = 0#8)), (.n, m.getLsbD 7), (.v, m.getLsbD 6)] s.cpu.p
          pc := s.cpu.pc + f.operand.length } ∧
      KeepsMemory s t ∧ transactions f.instr s = f.operand.loadReads s

/-- The adder (R220) and in integers (R222, R232): the carry is the unsigned carry out, the overflow is two's-complement overflow
of the signed sum; subtraction is addition of the complement, its carry is "no borrow" and its overflow is that of the
signed difference (choices: that the "negated subtrahend" is its complement is D21). -/
def Obligations.AdderCarryAndOverflowAreExact : Prop :=
  ∀ (a m : Byte) (cin : Bool),
    ((add8 a m cin).carry = true ↔ 0x100 ≤ a.toNat + m.toNat + cin.toNat) ∧
    ((add8 a m cin).r.toNat = (a.toNat + m.toNat + cin.toNat) % 0x100) ∧
    ((add8 a m cin).overflow = true ↔
      a.getLsbD 7 = m.getLsbD 7 ∧ (add8 a m cin).r.getLsbD 7 ≠ a.getLsbD 7) ∧
    ((add8 a m cin).overflow = true ↔
      a.toInt + m.toInt + cin.toNat < -128 ∨ 127 < a.toInt + m.toInt + cin.toNat) ∧
    ((sub8 a m cin).carry = true ↔ m.toNat + (!cin).toNat ≤ a.toNat) ∧
    ((sub8 a m cin).r = a - m - BitVec.ofNat 8 (!cin).toNat) ∧
    ((sub8 a m cin).overflow = true ↔
      a.toInt - m.toInt - (!cin).toNat < -128 ∨ 127 < a.toInt - m.toInt - (!cin).toNat)

/-! ### Shifts, increments, decrements -/

/-- ASL, LSR, ROL, ROR on memory and on the accumulator (R250 to R253): the new value and the carry as numbers. -/
def Obligations.ShiftsMoveOneBit : Prop :=
  ∀ (s : State) (b1 b2 : Byte),
    let cin := (getFlag .c s.cpu.p).toNat
    let asl := fun v : Byte => (BitVec.ofNat 8 (2 * v.toNat), v.getLsbD 7)
    let lsr := fun v : Byte => (BitVec.ofNat 8 (v.toNat / 2), v.getLsbD 0)
    let rol := fun v : Byte => (BitVec.ofNat 8 (2 * v.toNat + cin), v.getLsbD 7)
    let ror := fun v : Byte => (BitVec.ofNat 8 (v.toNat / 2 + 0x80 * cin), v.getLsbD 0)
    let flags := fun (e : Byte × Bool) => withFlags [(.c, e.2), (.z, decide (e.1 = 0#8)), (.n, e.1.getLsbD 7)] s.cpu.p
    (∀ g ∈ [(formsAsl b1 b2, asl), (formsLsr b1 b2, lsr), (formsRol b1 b2, rol), (formsRor b1 b2, ror)],
      ∀ f ∈ g.1, decodeOpcode f.opcode b1 b2 = f.instr ∧
        let v := f.operand.value s
        ∃ t ea, f.operand.address s = some ea ∧ exec f.instr s = .next t ∧
          Retires s t (f.operand.cycles + 2)
            { s.regs with p := flags (g.2 v), pc := s.cpu.pc + f.operand.length } ∧
          Stores s t [(ea, (g.2 v).1)] ∧
          transactions f.instr s =
            f.operand.addressReads s ++ [busRead ea v, busRead ea v, busWrite ea (g.2 v).1]) ∧
    (∀ g ∈ [(0x0A#8, Instr.aslAcc, asl), (0x4A#8, .lsrAcc, lsr), (0x2A#8, .rolAcc, rol), (0x6A#8, .rorAcc, ror)],
      decodeOpcode g.1 b1 b2 = g.2.1 ∧
        ∃ t, exec g.2.1 s = .next t ∧
          Retires s t 2
            { s.regs with a := (g.2.2 s.cpu.a).1, p := flags (g.2.2 s.cpu.a), pc := s.cpu.pc + 1 } ∧
          KeepsMemory s t ∧ transactions g.2.1 s = [s.discardedRead])

/-- INC and DEC on memory (R254, R255): one write of the value plus or minus one; C and V unchanged. -/
def Obligations.IncDecModifyMemory : Prop :=
  ∀ (s : State) (b1 b2 : Byte),
    ∀ g ∈ [(formsInc b1 b2, fun v : Byte => v + 1), (formsDec b1 b2, fun v => v - 1)],
      ∀ f ∈ g.1, decodeOpcode f.opcode b1 b2 = f.instr ∧
        let v := f.operand.value s
        ∃ t ea, f.operand.address s = some ea ∧ exec f.instr s = .next t ∧
          Retires s t (f.operand.cycles + 2)
            { s.regs with p := withNZ (g.2 v) s.cpu.p, pc := s.cpu.pc + f.operand.length } ∧
          Stores s t [(ea, g.2 v)] ∧
          transactions f.instr s =
            f.operand.addressReads s ++ [busRead ea v, busRead ea v, busWrite ea (g.2 v)]

/-- INX, INY, DEX, DEY (R256 to R259). -/
def Obligations.IndexIncDec : Prop :=
  ∀ (s : State) (b1 b2 : Byte),
    ∀ g ∈ [ (0xE8#8, Instr.inx, { s.regs with x := s.cpu.x + 1, p := withNZ (s.cpu.x + 1) s.cpu.p }),
            (0xC8#8, .iny, { s.regs with y := s.cpu.y + 1, p := withNZ (s.cpu.y + 1) s.cpu.p }),
            (0xCA#8, .dex, { s.regs with x := s.cpu.x - 1, p := withNZ (s.cpu.x - 1) s.cpu.p }),
            (0x88#8, .dey, { s.regs with y := s.cpu.y - 1, p := withNZ (s.cpu.y - 1) s.cpu.p }) ],
      decodeOpcode g.1 b1 b2 = g.2.1 ∧
        ∃ t, exec g.2.1 s = .next t ∧ Retires s t 2 { g.2.2 with pc := s.cpu.pc + 1 } ∧
          KeepsMemory s t ∧ transactions g.2.1 s = [s.discardedRead]

/-! ### Flags, transfers, no operation -/

/-- CLC, SEC, CLI, SEI, CLV, CLD, SED (R304 to R310): one flag, nothing else but `PC`. -/
def Obligations.FlagInstructionsWriteOneFlag : Prop :=
  ∀ (s : State) (b1 b2 : Byte),
    ∀ g ∈ [ (0x18#8, Instr.clc, Flag.c, false), (0x38#8, .sec, .c, true), (0x58#8, .cli, .i, false),
            (0x78#8, .sei, .i, true), (0xB8#8, .clv, .v, false), (0xD8#8, .cld, .d, false), (0xF8#8, .sed, .d, true) ],
      decodeOpcode g.1 b1 b2 = g.2.1 ∧
        ∃ t, exec g.2.1 s = .next t ∧
          Retires s t 2 { s.regs with p := withFlags [(g.2.2.1, g.2.2.2)] s.cpu.p, pc := s.cpu.pc + 1 } ∧
          KeepsMemory s t ∧ transactions g.2.1 s = [s.discardedRead]

/-- TAX, TAY, TSX, TXA, TXS, TYA (R311 to R316); TXS writes no flag. -/
def Obligations.TransfersCopyRegisters : Prop :=
  ∀ (s : State) (b1 b2 : Byte),
    ∀ g ∈ [ (0xAA#8, Instr.tax, { s.regs with x := s.cpu.a, p := withNZ s.cpu.a s.cpu.p }),
            (0xA8#8, .tay, { s.regs with y := s.cpu.a, p := withNZ s.cpu.a s.cpu.p }),
            (0xBA#8, .tsx, { s.regs with x := s.cpu.sp, p := withNZ s.cpu.sp s.cpu.p }),
            (0x8A#8, .txa, { s.regs with a := s.cpu.x, p := withNZ s.cpu.x s.cpu.p }),
            (0x9A#8, .txs, { s.regs with sp := s.cpu.x }),
            (0x98#8, .tya, { s.regs with a := s.cpu.y, p := withNZ s.cpu.y s.cpu.p }) ],
      decodeOpcode g.1 b1 b2 = g.2.1 ∧
        ∃ t, exec g.2.1 s = .next t ∧ Retires s t 2 { g.2.2 with pc := s.cpu.pc + 1 } ∧
          KeepsMemory s t ∧ transactions g.2.1 s = [s.discardedRead]

/-- NOP (R317) and the placeholder of all 105 unmapped opcodes (R125, R342): `PC` advances by one, in two cycles and in one,
and nothing else changes: after a placeholder, which takes no tick beyond its opcode fetch, every latch, tracker and bus is
as at its dispatch (choices: length and duration of a placeholder are D14). -/
def Obligations.NopAndPlaceholdersOnlyAdvance : Prop :=
  (∀ (s : State) (b1 b2 : Byte), decodeOpcode 0xEA b1 b2 = .nop ∧
    ∃ t, exec .nop s = .next t ∧ Retires s t 2 { s.regs with pc := s.cpu.pc + 1 } ∧ KeepsMemory s t ∧
      transactions .nop s = [s.discardedRead]) ∧
  (∀ (s : State) (b1 b2 : Byte), ∀ g ∈ formsUnmapped, decodeOpcode g.1 b1 b2 = g.2 ∧
    ∃ t, exec g.2 s = .next t ∧ Retires s t 1 { s.regs with pc := s.cpu.pc + 1 } ∧ KeepsMemory s t ∧
      transactions g.2 s = [] ∧ t.cpu.resPend = s.cpu.resPend ∧ t.cpu.nmiPend = s.cpu.nmiPend ∧
      t.cpu.irqPend = s.cpu.irqPend ∧ t.cpu.lastClk = s.cpu.lastClk ∧ t.cpu.lastNmi = s.cpu.lastNmi ∧ t.buses = s.buses) ∧
  formsUnmapped.length = 105

/-! ### Control transfer -/

/-- The eight conditional branches (R270 to R278): taken, `PC` is offset by the signed operand byte from the byte after the
branch, in three cycles; not taken, it passes the two bytes, in two (choices: the count of cycles is D31). -/
def Obligations.BranchesFollowTheirFlag : Prop :=
  ∀ (s : State) (b1 b2 : Byte),
    ∀ g ∈ [ (0x10#8, Instr.bpl b1, Flag.n, false), (0x30#8, .bmi b1, .n, true), (0x50#8, .bvc b1, .v, false),
            (0x70#8, .bvs b1, .v, true), (0x90#8, .bcc b1, .c, false), (0xB0#8, .bcs b1, .c, true),
            (0xD0#8, .bne b1, .z, false), (0xF0#8, .beq b1, .z, true) ],
      decodeOpcode g.1 b1 b2 = g.2.1 ∧
        ∃ t, exec g.2.1 s = .next t ∧ KeepsMemory s t ∧
          (getFlag g.2.2.1 s.cpu.p = g.2.2.2 →
            Retires s t 3 { s.regs with pc := BitVec.ofInt 16 (s.cpu.pc.toNat + 2 + b1.toInt) } ∧
            transactions g.2.1 s = [busRead (s.cpu.pc + 1) b1, s.discardedRead]) ∧
          (getFlag g.2.2.1 s.cpu.p ≠ g.2.2.2 →
            Retires s t 2 { s.regs with pc := s.cpu.pc + 2 } ∧
            transactions g.2.1 s = [busRead (s.cpu.pc + 1) b1])

/-- JMP absolute and indirect (R279, R280): the pointer's high byte comes from the next address modulo 2^16, also across a
page (choices: the pointer across a page is D29). -/
def Obligations.JumpsLoadPc : Prop :=
  ∀ (s : State) (b1 b2 : Byte),
    (decodeOpcode 0x4C b1 b2 = .jmpAbs b1 b2 ∧
      ∃ t, exec (.jmpAbs b1 b2) s = .next t ∧ Retires s t 3 { s.regs with pc := word b2 b1 } ∧ KeepsMemory s t ∧
        transactions (.jmpAbs b1 b2) s = [busRead (s.cpu.pc + 1) b1, busRead (s.cpu.pc + 2) b2]) ∧
    (decodeOpcode 0x6C b1 b2 = .jmpInd b1 b2 ∧
      ∃ t, exec (.jmpInd b1 b2) s = .next t ∧
        Retires s t 5 { s.regs with pc := word (s.peek (word b2 b1 + 1)) (s.peek (word b2 b1)) } ∧ KeepsMemory s t ∧
        transactions (.jmpInd b1 b2) s =
          [ busRead (s.cpu.pc + 1) b1, busRead (s.cpu.pc + 2) b2,
            busRead (word b2 b1) (s.peek (word b2 b1)), busRead (word b2 b1 + 1) (s.peek (word b2 b1 + 1)) ])

/-- JSR (R281): the address of its own last byte is pushed, high byte first; the target's high byte is fetched after the
pushes, and is the pushed byte when a push changed it (choices: where the operand `b2` and memory differ, the model's
convention is log entry 2). -/
def Obligations.JsrPushesReturnAddress : Prop :=
  ∀ (s : State) (b1 b2 : Byte), decodeOpcode 0x20 b1 b2 = .jsr b1 b2 ∧
    let ret := s.cpu.pc + 2
    let pushed := [(stackAddr s.cfg s.cpu.sp, hiByte ret), (stackAddr s.cfg (s.cpu.sp - 1), loByte ret)]
    let third := if (s.pokes pushed).peek ret = s.peek ret then b2 else (s.pokes pushed).peek ret
    ∃ t, exec (.jsr b1 b2) s = .next t ∧
      Retires s t 6 { s.regs with sp := s.cpu.sp - 2, pc := word third b1 } ∧ Stores s t pushed ∧
      transactions (.jsr b1 b2) s =
        [ busRead (s.cpu.pc + 1) b1, s.discardedRead,
          busWrite (stackAddr s.cfg s.cpu.sp) (hiByte ret), busWrite (stackAddr s.cfg (s.cpu.sp - 1)) (loByte ret),
          busRead ret third ]

/-- RTS (R282): the two bytes above `SP`, plus one. -/
def Obligations.RtsPullsReturnAddress : Prop :=
  ∀ (s : State) (b1 b2 : Byte), decodeOpcode 0x60 b1 b2 = .rts ∧
    let lo := s.peek (stackAddr s.cfg (s.cpu.sp + 1))
    let hi := s.peek (stackAddr s.cfg (s.cpu.sp + 2))
    ∃ t, exec .rts s = .next t ∧
      Retires s t 6 { s.regs with sp := s.cpu.sp + 2, pc := word hi lo + 1 } ∧ KeepsMemory s t ∧
      transactions .rts s =
        [ s.discardedRead, s.discardedRead, busRead (stackAddr s.cfg (s.cpu.sp + 1)) lo,
          busRead (stackAddr s.cfg (s.cpu.sp + 2)) hi, busRead (stackAddr s.cfg (s.cpu.sp + 2)) hi ]

/-! ### Stack -/

/-- PHA and PHP (R300, R301): one byte written at `STACK_BASE | SP`, then `SP` one less. -/
def Obligations.PushesStoreAndDecrement : Prop :=
  ∀ (s : State) (b1 b2 : Byte),
    ∀ g ∈ [(0x48#8, Instr.pha, s.cpu.a), (0x08#8, .php, s.cpu.p ||| 0x30#8)],
      decodeOpcode g.1 b1 b2 = g.2.1 ∧
        ∃ t, exec g.2.1 s = .next t ∧ Retires s t 3 { s.regs with sp := s.cpu.sp - 1, pc := s.cpu.pc + 1 } ∧
          Stores s t [(stackAddr s.cfg s.cpu.sp, g.2.2)] ∧
          transactions g.2.1 s = [s.discardedRead, busWrite (stackAddr s.cfg s.cpu.sp) g.2.2]

/-- PLA and PLP (R302, R303): `SP` one more, then the byte there; bits 5 and 4 of a pulled status are forced to 1 (choices: the
forced bits are D19). -/
def Obligations.PullsIncrementAndLoad : Prop :=
  ∀ (s : State) (b1 b2 : Byte),
    let v := s.peek (stackAddr s.cfg (s.cpu.sp + 1))
    ∀ g ∈ [ (0x68#8, Instr.pla, { s.regs with a := v, p := withNZ v s.cpu.p }),
            (0x28#8, .plp, { s.regs with p := v ||| 0x30#8 }) ],
      decodeOpcode g.1 b1 b2 = g.2.1 ∧
        ∃ t, exec g.2.1 s = .next t ∧
          Retires s t 4 { g.2.2 with sp := s.cpu.sp + 1, pc := s.cpu.pc + 1 } ∧ KeepsMemory s t ∧
          transactions g.2.1 s =
            [s.discardedRead, s.discardedRead, busRead (stackAddr s.cfg (s.cpu.sp + 1)) v]

/-! ### Exceptions and the return from them -/

/-- BRK (R340): `PC` + 2 and the status with bits 5 and 4 set are pushed, then `I` is set and the IRQ vector loaded (choices:
BRK as a whole is D34, the pushed bits D19). -/
def Obligations.BrkTakesSoftwareInterrupt : Prop :=
  ∀ (s : State) (b1 b2 : Byte), decodeOpcode 0x00 b1 b2 = .brk ∧
    let ret := s.cpu.pc + 2
    let status := s.cpu.p ||| 0x30#8
    let pushed := [ (stackAddr s.cfg s.cpu.sp, hiByte ret), (stackAddr s.cfg (s.cpu.sp - 1), loByte ret),
                    (stackAddr s.cfg (s.cpu.sp - 2), status) ]
    let lo := (s.pokes pushed).peek s.cfg.irqVector
    let hi := (s.pokes pushed).peek (s.cfg.irqVector + 1)
    ∃ t, exec .brk s = .next t ∧
      Retires s t 7
        { s.regs with sp := s.cpu.sp - 3, p := withFlags [(.i, true)] s.cpu.p, pc := word hi lo } ∧
      Stores s t pushed ∧
      transactions .brk s =
        [ s.discardedRead, busWrite (stackAddr s.cfg s.cpu.sp) (hiByte ret),
          busWrite (stackAddr s.cfg (s.cpu.sp - 1)) (loByte ret), busWrite (stackAddr s.cfg (s.cpu.sp - 2)) status,
          busRead s.cfg.irqVector lo, busRead (s.cfg.irqVector + 1) hi ]

/-- RTI (R341): status, low byte and high byte are pulled; nothing is added to the address (choices: the forced bits are D19).
-/
def Obligations.RtiRestoresStatusAndPc : Prop :=
  ∀ (s : State) (b1 b2 : Byte), decodeOpcode 0x40 b1 b2 = .rti ∧
    let status := s.peek (stackAddr s.cfg (s.cpu.sp + 1))
    let lo := s.peek (stackAddr s.cfg (s.cpu.sp + 2))
    let hi := s.peek (stackAddr s.cfg (s.cpu.sp + 3))
    ∃ t, exec .rti s = .next t ∧
      Retires s t 6 { s.regs with sp := s.cpu.sp + 3, p := status ||| 0x30#8, pc := word hi lo } ∧ KeepsMemory s t ∧
      transactions .rti s =
        [ s.discardedRead, s.discardedRead, busRead (stackAddr s.cfg (s.cpu.sp + 1)) status,
          busRead (stackAddr s.cfg (s.cpu.sp + 2)) lo, busRead (stackAddr s.cfg (s.cpu.sp + 3)) hi ]

/-- The RESET pseudo-instruction (R365) (choices: its micro-steps are D15). -/
def Obligations.ResetLoadsInitialRegisters : Prop :=
  ∀ s : State,
    let lo := s.peek s.cfg.resetVector
    let hi := s.peek (s.cfg.resetVector + 1)
    ∃ t, exec .reset s = .next t ∧
      Retires s t 3 { a := 0x00, x := 0x00, y := 0x00, sp := 0xFF, p := 0x30, pc := word hi lo } ∧ KeepsMemory s t ∧
      t.cpu.resPend = false ∧
      transactions .reset s = [busRead s.cfg.resetVector lo, busRead (s.cfg.resetVector + 1) hi]

/-- The NMI pseudo-instruction (R366): the pushed status carries `I` = 1, the handler starts with `I` = 0 and the latch
cleared (choices: micro-steps and the reading of the disable bit are D16, the cleared latch D35). -/
def Obligations.NmiPushesMaskedStatusAndUnmasks : Prop :=
  ∀ s : State,
    let status := withFlags [(.i, true)] s.cpu.p
    let pushed := [ (stackAddr s.cfg s.cpu.sp, hiByte s.cpu.pc), (stackAddr s.cfg (s.cpu.sp - 1), loByte s.cpu.pc),
                    (stackAddr s.cfg (s.cpu.sp - 2), status) ]
    let lo := (s.pokes pushed).peek s.cfg.nmiVector
    let hi := (s.pokes pushed).peek (s.cfg.nmiVector + 1)
    ∃ t, exec .nmi s = .next t ∧
      Retires s t 6
        { s.regs with sp := s.cpu.sp - 3, p := withFlags [(.i, false)] s.cpu.p, pc := word hi lo } ∧
      Stores s t pushed ∧ t.cpu.nmiPend = false ∧
      transactions .nmi s =
        [ busWrite (stackAddr s.cfg s.cpu.sp) (hiByte s.cpu.pc),
          busWrite (stackAddr s.cfg (s.cpu.sp - 1)) (loByte s.cpu.pc), busWrite (stackAddr s.cfg (s.cpu.sp - 2)) status,
          busRead s.cfg.nmiVector lo, busRead (s.cfg.nmiVector + 1) hi ]

/-- The IRQ pseudo-instruction (R367): the status is pushed as held, then `I` is set and stays set (choices: micro-steps and
the disable bit after completion are D17). -/
def Obligations.IrqPushesStatusThenMasks : Prop :=
  ∀ s : State,
    let pushed := [ (stackAddr s.cfg s.cpu.sp, hiByte s.cpu.pc), (stackAddr s.cfg (s.cpu.sp - 1), loByte s.cpu.pc),
                    (stackAddr s.cfg (s.cpu.sp - 2), s.cpu.p) ]
    let lo := (s.pokes pushed).peek s.cfg.irqVector
    let hi := (s.pokes pushed).peek (s.cfg.irqVector + 1)
    ∃ t, exec .irq s = .next t ∧
      Retires s t 6
        { s.regs with sp := s.cpu.sp - 3, p := withFlags [(.i, true)] s.cpu.p, pc := word hi lo } ∧
      Stores s t pushed ∧
      transactions .irq s =
        [ busWrite (stackAddr s.cfg s.cpu.sp) (hiByte s.cpu.pc),
          busWrite (stackAddr s.cfg (s.cpu.sp - 1)) (loByte s.cpu.pc), busWrite (stackAddr s.cfg (s.cpu.sp - 2)) s.cpu.p,
          busRead s.cfg.irqVector lo, busRead (s.cfg.irqVector + 1) hi ]

/-- RTS undoes JSR (R281, R282): on a plain RAM with an aligned stack page, an RTS run right after the JSR, wherever that
jumped, continues at the instruction after the JSR with every other register as before it (choices: that the stack page is
aligned is log entry 15). -/
def Obligations.ReturnUndoesCall : Prop :=
  ∀ (s t : State) (b1 b2 : Byte), s.plainRam = true → s.cfg.stackPageOk = true → exec (.jsr b1 b2) s = .next t →
    ∃ u, exec .rts t = .next u ∧ u.regs = { s.regs with pc := s.cpu.pc + 3 } ∧ KeepsMemory t u

/-- RTI "undoes exactly the frame that NMI, IRQ and BRK push" (R341, R371): on a plain RAM with an aligned stack page and
`P[5:4]` = 11, it resumes at the instruction an interrupt did not start, or after a BRK's two bytes, with the pushed status:
as before for IRQ and BRK, with `I` = 1 after an NMI (choices: the aligned stack page is log entry 15). -/
def Obligations.RtiUndoesInterruptFrames : Prop :=
  ∀ s : State, s.plainRam = true → s.cfg.stackPageOk = true → s.statusOk = true →
    (∀ t, exec .irq s = .next t → ∃ u, exec .rti t = .next u ∧ u.regs = s.regs) ∧
    (∀ t, exec .nmi s = .next t →
      ∃ u, exec .rti t = .next u ∧ u.regs = { s.regs with p := withFlags [(.i, true)] s.cpu.p }) ∧
    (∀ t, exec .brk s = .next t → ∃ u, exec .rti t = .next u ∧ u.regs = { s.regs with pc := s.cpu.pc + 2 })

/-! ### Whole-machine rules over all instructions -/

/-- An instruction outside the lists of R21 to R24 leaves `A`, `X`, `Y` or `SP` as it was. -/
def Obligations.OnlyListedInstructionsWriteRegisters : Prop :=
  ∀ (i : Instr) (s t : State), exec i s = .next t →
    (writesA i = false → t.cpu.a = s.cpu.a) ∧ (writesX i = false → t.cpu.x = s.cpu.x) ∧
    (writesY i = false → t.cpu.y = s.cpu.y) ∧ (writesSp i = false → t.cpu.sp = s.cpu.sp)

/-- "A flag not listed for an instruction is left unchanged by it" (R31); bit 5 goes with `P.B`. -/
def Obligations.OnlyListedInstructionsWriteFlags : Prop :=
  ∀ (i : Instr) (s t : State), exec i s = .next t →
    (∀ f, writesFlag f i = false → getFlag f t.cpu.p = getFlag f s.cpu.p) ∧
    (writesB i = false → t.cpu.p.getLsbD 5 = s.cpu.p.getLsbD 5)

/-- An instruction without a write cycle changes no byte of memory, and none changes the parameters. -/
def Obligations.OnlyStoringInstructionsWriteMemory : Prop :=
  ∀ (i : Instr) (s t : State), exec i s = .next t →
    t.cfg = s.cfg ∧ (writesMemory i = false → KeepsMemory s t ∧ ∀ x ∈ transactions i s, x.write = false)

/-- Bits 5 and 4 of `P` stay set through every instruction, RESET, PLP and RTI set them whatever they were, and every status
byte pushed, the last write of PHP, BRK, NMI and IRQ, carries them (R39) (choices: D19). -/
def Obligations.StatusBitsStaySet : Prop :=
  (∀ (i : Instr) (s t : State), s.statusOk = true → exec i s = .next t → t.statusOk = true) ∧
  (∀ (s t : State), exec .reset s = .next t → t.statusOk = true) ∧
  (∀ (s t : State), exec .plp s = .next t → t.statusOk = true) ∧
  (∀ (s t : State), exec .rti s = .next t → t.statusOk = true) ∧
  (∀ s : State, s.statusOk = true → ∀ i ∈ [Instr.php, .brk, .nmi, .irq],
    ∃ x, ((transactions i s).filter (·.write)).getLast? = some x ∧ x.data.getLsbD 5 = true ∧ x.data.getLsbD 4 = true)

/-- Writing a flag changes its bit of R30 and no other; `setNZ` writes Z and N and no other bit (R30, R32) (choices: the bit
positions are D2). -/
def Obligations.FlagWritesTouchOneBit : Prop :=
  (∀ (f : Flag) (on : Bool) (p : Byte) (k : Nat), k < 8 →
    (setFlag f on p).getLsbD k = if k = flagBit f then on else p.getLsbD k) ∧
  (∀ (v : Byte) (c : Cpu) (k : Nat), k < 8 →
    (c.setNZ v).p.getLsbD k =
      if k = 7 then v.getLsbD 7 else if k = 1 then decide (v = 0#8) else c.p.getLsbD k) ∧
  [flagBit .n, flagBit .v, flagBit .b, flagBit .d, flagBit .i, flagBit .z, flagBit .c] = [7, 6, 4, 3, 2, 1, 0]

/-- What an instruction's clock cycles do to the lines: the buses that the CPU does not drive, the trackers and the three
latches are those that the same number of ticks gives (R150 E1 to E4, R361, R362), but for the latch that NMI or RESET clears;
`irqPend` follows the line and the `P.I` that holds before the instruction's last micro-step (R363, R46): set by BRK, NMI and
IRQ by then, cleared by RESET, pulled by RTI, as before in every other instruction (choices: D8, D11, D18). -/
def Obligations.LatchesFollowTheLines : Prop :=
  ∀ (i : Instr) (s t : State), s.cfg.clockOk = true → s.portsOk = true → exec i s = .next t →
    let p := s.cfg.ports
    let u := State.lineTicks (2 * s.cfg.clkDiv * (transactions i s).length) s
    let masked :=
      if i ∈ [Instr.brk, .nmi, .irq] then true
      else if i = .reset then false
      else if i = .rti then getFlag .i t.cpu.p
      else getFlag .i s.cpu.p
    t.cpu.lastClk = u.cpu.lastClk ∧ t.cpu.lastNmi = u.cpu.lastNmi ∧
      (i ≠ .nmi → t.cpu.nmiPend = u.cpu.nmiPend) ∧ (i ≠ .reset → t.cpu.resPend = u.cpu.resPend) ∧
      (transactions i s = [] → t.cpu.irqPend = s.cpu.irqPend) ∧
      (transactions i s ≠ [] → t.cpu.irqPend = (!t.level p.irq && !masked)) ∧
      ∀ id, id ∉ p.outputs → t.buses.get id = u.buses.get id

/-- `SYNC` is 1 in the opcode fetch and in no other bus cycle of an instruction (R176) (choices: D7). -/
def Obligations.SyncMarksTheOpcodeFetch : Prop :=
  (∀ (i : Instr) (s : State), ∀ x ∈ transactions i s, x.sync = false) ∧
  (∀ s : State, s.instructionLevel = true →
    let bs := s.cycleZero.buses
    let p := s.cfg.ports
    (bs.get p.sync).read = 1 ∧ (bs.get p.addr).read = s.cpu.pc.toNat ∧ (bs.get p.rw).read = 1)

/-! ### Buses and memory devices -/

/-- The standard and the open-collector bus, operation by operation (R61, R63, R64, R68; S1 and S2 of the test vectors)
(choices: the snapshot `last` is D9, that the later of two writes stands D25). -/
def Obligations.BusOperationsByKind : Prop :=
  (∀ (b : Bus) (v w : Nat), b.kind = .standard →
    (b.write v).read = v &&& b.mask ∧ (b.write v).count = b.count + 1 ∧
    b.hasConflict = decide (1 < b.count) ∧ ((b.reset.write v).write w).hasConflict = true ∧
    ((b.reset.write v).write w).read = w &&& b.mask ∧ (b.reset.write v).hasConflict = false ∧
    (b.write v).reset.hasConflict = false ∧ (b.write v).reset.read = 0 ∧ b.reset.count = 0 ∧ b.reset.last = b.value) ∧
  (∀ (b : Bus) (v w : Nat), b.kind = .openCollector →
    b.reset.read = 1 ∧ b.reset.last = b.value ∧ b.reset.count = 0 ∧ (b.write v).read = b.read &&& v ∧
    (b.reset.write 0).read = 0 ∧ ((b.reset.write 0).write v).read = 0 ∧ ((b.reset.write v).write w).hasConflict = false ∧
    b.hasConflict = false)

/-- Sources that keep their level. A divided clock (R69; creation level and conflicts D25): after `j` ticks from creation it
has toggled every `n` ticks, writes do nothing, `reset` keeps the level, and it never reports a conflict. Fixed sources
(R67; the conflict's end at the next reset D25): a write changes nothing and conflicts. Every reset copies the value to
`last` (R66, D9). -/
def Obligations.ClocksAndFixedSourcesKeepTheirLevel : Prop :=
  (∀ (n j v : Nat), 1 ≤ n →
    let b := (List.range j).foldl (fun c _ => (c.reset.advance).write v) (Bus.new (.dividedClock n) 1)
    b.read = j / n % 2 ∧ b.div = j % n ∧ b.hasConflict = false) ∧
  (∀ (b : Bus) (v : Nat), b.kind = .fixedHigh ∨ b.kind = .fixedLow →
    (b.write v).read = b.read ∧ (b.write v).hasConflict = true ∧ (b.write v).reset.hasConflict = false) ∧
  (∀ b : Bus, b.kind = .fixedHigh → b.read = 1) ∧ (∀ b : Bus, b.kind = .fixedLow → b.read = 0) ∧
  (∀ b : Bus, b.reset.last = b.value)

/-- A bus's kind, width and divisor never change in a tick, nor the set of buses, the wiring and size of a memory device, or
the parameters (R65, R8); creation gives the values of R53, and of R80 and R54 for a memory device, whose address width is
clamped to 24 (choices: a bus's creation values are D25). -/
def Obligations.AssemblyNeverChanges : Prop :=
  (∀ s t : State, s.tick = .next t →
    t.cfg = s.cfg ∧ t.buses.ids = s.buses.ids ∧
    (∀ id, (t.buses.get id).kind = (s.buses.get id).kind ∧ (t.buses.get id).width = (s.buses.get id).width) ∧
    t.mems.map (fun d => { d with cells := [] }) = s.mems.map (fun d => { d with cells := [] })) ∧
  (∀ (w n : Nat), ∀ e ∈ [(BusKind.standard, 0), (.fixedHigh, 1), (.fixedLow, 0), (.openCollector, 1), (.dividedClock n, 0)],
    Bus.new e.1 w = { kind := e.1, width := w, value := e.2, count := 0, last := e.2, div := 0 }) ∧
  (∀ (aw dw : Nat) (b1 b2 b3 : BusId) (b4 : Option BusId),
    let d := MemDevice.new aw dw b1 b2 b3 b4
    d.aw = (if aw ≤ 24 then aw else 24) ∧ d.dw = dw ∧ d.addrBus = b1 ∧ d.dataBus = b2 ∧ d.enBus = b3 ∧ d.rwBus = b4 ∧
      d.arrayOk = true ∧ ∀ a, Memory.read d.cells a = 0x00#8)

/-- Round trip (R85): a byte written with the enable line and the write line at 0 is read back, masked by `dataMask`, when the
write line is at 1 and the address bus carries the same address of the array, after any number of ticks that do not write to
it. -/
def Obligations.MemoryDeviceRoundTrip : Prop :=
  ∀ (d : MemDevice) (line : BusId) (bs bs' : Buses) (between : List Buses),
    Memory.wf d.cells = true → d.rwBus = some line →
    (bs.get d.enBus).read = 0 → (bs.get line).read = 0 →
    (∀ b ∈ between, ¬ ((b.get d.enBus).read = 0 ∧ (b.get line).read = 0 ∧
      (b.get d.addrBus).read % 2 ^ d.aw = (bs.get d.addrBus).read % 2 ^ d.aw)) →
    (bs'.get d.enBus).read = 0 → (bs'.get line).read ≠ 0 →
    (bs'.get d.addrBus).read % 2 ^ d.aw = (bs.get d.addrBus).read % 2 ^ d.aw →
    let d' := between.foldl (fun e b => (e.evaluate b).1) (d.evaluate bs).1
    d'.evaluate bs' =
      (d', bs'.modify d.dataBus (Bus.write (d.dataMasked (BitVec.ofNat 8 (bs.get d.dataBus).read)).toNat))

/-- `evaluate()` of a memory device, case by case (R82): disabled, it does nothing; enabled with a read/write line that reads 0
it stores the masked data at the masked address and drives nothing; enabled otherwise it drives its byte and stores nothing; a
repeated write is idempotent. An address is masked to the declared width, so that it is inside the array and the contents
repeat every `2^AW` (R84). -/
def Obligations.MemoryDeviceActsOnlyWhenEnabled : Prop :=
  ∀ (d : MemDevice) (bs : Buses), Memory.wf d.cells = true →
    let en := (bs.get d.enBus).read
    let addr := (bs.get d.addrBus).read &&& (2 ^ d.aw - 1)
    let dataMask := 2 ^ d.dw - 1
    let writes := ∃ line, d.rwBus = some line ∧ (bs.get line).read = 0
    (en ≠ 0 → d.evaluate bs = (d, bs)) ∧
    (en = 0 → writes →
      (d.evaluate bs).2 = bs ∧ { (d.evaluate bs).1 with cells := d.cells } = d ∧
      (∀ a, Memory.read (d.evaluate bs).1.cells a =
        if a = addr then BitVec.ofNat 8 ((bs.get d.dataBus).read &&& dataMask) else Memory.read d.cells a) ∧
      ((d.evaluate bs).1.evaluate bs).1 = (d.evaluate bs).1) ∧
    (en = 0 → ¬ writes →
      d.evaluate bs = (d, bs.modify d.dataBus (Bus.write ((Memory.read d.cells addr).toNat &&& dataMask)))) ∧
    addr < 2 ^ d.aw ∧ (∀ a k, d.readAt (a + 2 ^ d.aw * k) = d.readAt a)

/-- A memory device never both stores and drives (R86), and without a read/write line it drives whenever enabled and never
stores (R83). A store where ROMs answer (R83, R430): `DATA` gets one writer for each enabled device without a read/write line
besides the CPU, so one such device is a conflict, and no ROM changes. A read where no device is enabled gives 0x00 (R103). -/
def Obligations.RomStoresConflictOpenReadsAreZero : Prop :=
  (∀ (d : MemDevice) (bs : Buses),
    ((d.evaluate bs).1 = d ∨ (d.evaluate bs).2 = bs) ∧
    (d.rwBus = none → (d.evaluate bs).1 = d ∧
      ((bs.get d.enBus).read = 0 →
        (d.evaluate bs).2 = bs.modify d.dataBus (Bus.write (d.readAt (bs.get d.addrBus).read).toNat)))) ∧
  (∀ (s t : State) (b1 b2 : Byte), s.evalOrderOk = true → s.portsOk = true →
    ∀ f ∈ formsSta b1 b2 ++ formsStx b1 b2 ++ formsSty b1 b2, exec f.instr s = .next t →
      let roms := s.mems.filter fun d => d.enabled s.buses && d.rwBus.isNone
      (t.buses.get s.cfg.ports.data).count = 1 + roms.length ∧
      (roms ≠ [] → s.cfg.ports.data ∈ t.conflicts) ∧
      t.mems.filter (fun d => d.rwBus.isNone) = s.mems.filter (fun d => d.rwBus.isNone)) ∧
  (∀ (s : State) (a : Word), (∀ d ∈ s.mems, d.enabled s.buses = false) → s.peek a = 0x00#8)

/-- Every operation that changes a memory device's array keeps its canonical form: a device's own write, the loader, a whole
instruction, and a whole tick (choices: the canonical form is the model's representation of R54's array). -/
def Obligations.MemoryStaysCanonical : Prop :=
  (∀ (m : Memory) (a : Nat) (v : Byte), Memory.wf m = true → Memory.wf (Memory.write m a v) = true) ∧
  (∀ (d : MemDevice) (a : Nat) (l : List Byte), d.arrayOk = true → (d.load a l).arrayOk = true) ∧
  (∀ (i : Instr) (s t : State), s.arraysOk = true → exec i s = .next t → t.arraysOk = true) ∧
  (∀ s t : State, s.arraysOk = true → s.tick = .next t → t.arraysOk = true)

/-- On the reference platform a read returns the latest byte written to its address and every other address is untouched; and
the next opcode fetch sees the last byte that an instruction, whichever it is, stored at the new `PC` (R91, R92, R105, R108)
(choices: the platform is D27). -/
def Obligations.ReadsReturnTheLatestWrite : Prop :=
  (∀ (s : State) (a b : Word) (v : Byte), s.plainRam = true →
    (s.poke a v).plainRam = true ∧ (s.poke a v).peek b = if b = a then v else s.peek b) ∧
  (∀ (i : Instr) (s t : State) (x : Transaction), s.plainRam = true → exec i s = .next t →
    ((transactions i s).filter fun y => y.write && decide (y.addr = t.cpu.pc)).getLast? = some x →
    t.cycleZero.cpu.dbuf = x.data)

/-- With the CPU before one RAM that is always enabled and providers that write no bus the CPU drives, no tick leaves a
conflict on the buses of ADDR, DATA, RW and SYNC (R92, R430): each has exactly one writer (choices: the platform is D27). -/
def Obligations.ReferencePlatformHasNoConflict : Prop :=
  ∀ s t : State, s.platformOk = true → s.referenceRam = true →
    (s.inputs.headD (idleInput s.cfg.ports)).sparesOutputs s.cfg.ports = true → s.tick = .next t →
    ∀ id ∈ s.cfg.ports.outputs, (t.buses.get id).count = 1 ∧ id ∉ t.conflicts

/-! ### The tick level -/

/-- The instruction level is derived from the tick level (R13, R160, R179): from every state of the invariant, one step is
exactly the ticks of its clock cycles, `2 * CLK_DIV` ticks for the opcode fetch and for each further bus transaction; the
two agree on the whole state after them, and on a refusal (choices: both levels rest on D8 to D12). -/
def Obligations.StepIsItsTicks : Prop :=
  ∀ (s : State) (i : Instr), s.inv = true → s.cycleZero.selected = some i →
    s.ticks (2 * s.cfg.clkDiv * ((transactions i s.cycleZero).length + 1)) = step s

/-- The boot of R422 and S4: from power-on with any unspecified registers, any parameters with `CLK_DIV` = 1, any memory
image and `RES` low in the first two ticks, five ticks end right after RESET, in the registers of R51, and, when the image
is canonical, in a state of the invariant (choices: the power-on values are D22). -/
def Obligations.PowerOnBootsThroughReset : Prop :=
  ∀ (cfg : Config) (u : Unspecified) (image : Memory),
    cfg.clkDiv = 1 → cfg.evalOrder = [.cpu, .mem 0] → cfg.ports = Ports.reference →
    let ram := { MemDevice.new 16 8 .addr .data .gnd (some .rw) with cells := image }
    ∃ t, ({ State.powerOn cfg u [resetInput cfg.ports, resetInput cfg.ports] with mems := [ram] }).ticks 5 = .next t ∧
      t.regs = { a := 0, x := 0, y := 0, sp := 0xFF, p := 0x30,
                 pc := word (Memory.read image (cfg.resetVector + 1).toNat) (Memory.read image cfg.resetVector.toNat) } ∧
      t.mems = [ram] ∧ t.cpu.resPend = false ∧ t.cpu.ir = Config.selReset ∧
      (ram.arrayOk = true → t.inv = true)

/-- In a tick without a clock edge the CPU's `evaluate()` changes no register of R20 to R45: only the latches and the
trackers (E1 to E4) and the buses it drives (E7) (R151, R155, R154) (choices: the re-driven outputs are D10). -/
def Obligations.NoEdgeTickKeepsRegisters : Prop :=
  ∀ s : State, s.level s.cfg.ports.clk = s.cpu.lastClk →
    ∃ t, s.evaluateCpu = .next t ∧
      t.cpu = { s.cpu with
        nmiPend := t.cpu.nmiPend, irqPend := t.cpu.irqPend, resPend := t.cpu.resPend
        lastClk := t.cpu.lastClk, lastNmi := t.cpu.lastNmi } ∧
      t.mems = s.mems ∧ t.inputs = s.inputs ∧ t.cfg = s.cfg ∧
      t.buses = s.buses.driveOutputs s.cfg.ports s.cpu ∧ (s.portsOk = true → DrivesOutputs s t)

/-- In every `evaluate()` of the CPU, edge or not, that answers a next state: an NMI latch is set by a 1-to-0 transition
(R362), the reset latch by a 0 (R361), `irqPend` is the line's 0 and `P.I` = 0 (R363), the trackers take this tick's levels.
A latch that is set stays set, but for the micro-step that completes NMI or RESET, a rising edge that leaves `CYC` at 0 under
that selector, which clears its own latch and no other (R372) (choices: order of work D11, polarity of RES D6, the level of
IRQ D18, the selector codes D23, an edge in the completing tick D35). -/
def Obligations.LatchesUpdateEveryTick : Prop :=
  ∀ s t : State, s.evaluateCpu = .next t →
    let p := s.cfg.ports
    let rising := s.cpu.lastClk = false ∧ s.level p.clk = true
    let nmi := s.cpu.nmiPend = true ∨ (s.cpu.lastNmi = true ∧ s.level p.nmi = false)
    let res := s.cpu.resPend = true ∨ s.level p.res = false
    let completes := fun sel : Selector => rising ∧ t.cpu.ir = sel ∧ t.cpu.cyc = 0
    t.cpu.lastClk = s.level p.clk ∧ t.cpu.lastNmi = s.level p.nmi ∧
    t.cpu.irqPend = (!s.level p.irq && !getFlag .i s.cpu.p) ∧
    (t.cpu.nmiPend = true ↔ nmi ∧ ¬ completes Config.selNmi) ∧
    (t.cpu.resPend = true ↔ res ∧ ¬ completes Config.selReset)

/-- A falling edge publishes the staging registers, and the new values are on the buses in that same tick (R152, R154); what
a rising edge stages is not: the buses of that tick still carry the old outputs (R161). Each output port's bus is written
once, `DATA` only in a write cycle, and no other bus is (R154) (choices: that outputs are held and re-driven is D10). -/
def Obligations.OutputsChangeOnFallingEdges : Prop :=
  ∀ s t : State, s.evaluateCpu = .next t →
    let falling := s.cpu.lastClk = true ∧ s.level s.cfg.ports.clk = false
    (falling → t.cpu.oaddr = s.cpu.paddr ∧ t.cpu.odata = s.cpu.pdata ∧ t.cpu.orw = s.cpu.prw ∧ t.cpu.osync = s.cpu.psync) ∧
    (¬ falling → t.cpu.oaddr = s.cpu.oaddr ∧ t.cpu.odata = s.cpu.odata ∧ t.cpu.orw = s.cpu.orw ∧ t.cpu.osync = s.cpu.osync) ∧
    t.buses = s.buses.driveOutputs s.cfg.ports t.cpu ∧ (s.portsOk = true → DrivesOutputs s t)

/-- IRQ masking (R363, S7): while `P.I` = 1 no cycle 0 selects the IRQ; with `P.I` = 0, the line low in the tick of a cycle
0 and nothing of higher priority pending, it is serviced at that boundary (choices: that the level must hold at cycle 0 is
D18). -/
def Obligations.IrqIsMaskedByI : Prop :=
  ∀ s : State, s.instructionLevel = true →
    (getFlag .i s.cpu.p = true → s.cycleZero.cpu.irqPend = false ∧ s.cycleZero.cpu.ir ≠ Config.selIrq) ∧
    (getFlag .i s.cpu.p = false → s.clockCycle.level s.cfg.ports.irq = false →
      s.clockCycle.cpu.resPend = false → s.clockCycle.cpu.nmiPend = false →
      s.cycleZero.cpu.ir = Config.selIrq ∧ step s = exec .irq s.cycleZero)

/-! ### Encoding -/

/-- Decoding an encoded well-formed instruction, whatever bytes follow, gives it back; a decoded instruction is well-formed
and its encoding is the very bytes read; and a byte string is refused exactly when it is too short for its opcode. -/
def Obligations.DecodeEncodeAgree : Prop :=
  (∀ (i : Instr) (rest : List Byte), i.wellFormed = true → decode (encode i ++ rest) = .ok (i, rest)) ∧
  (∀ (bytes rest : List Byte) (i : Instr), decode bytes = .ok (i, rest) →
    i.wellFormed = true ∧ bytes = encode i ++ rest ∧ (encode i).length = i.length) ∧
  (∀ bytes : List Byte, (∃ e, decode bytes = .error e) ↔
    bytes.length < 1 ∨ bytes.length < opcodeLength (bytes.headD 0))

/-- One word of each family, its bits written out from the map of R123, decodes to the instruction it stands for. -/
def Obligations.DecodeOfWrittenWords : Prop :=
  decode [0b10101001#8, 0x80] = .ok (.ldaImm 0x80, []) ∧
  decode [0b10010001#8, 0x10] = .ok (.staIny 0x10, []) ∧
  decode [0b01101101#8, 0x00, 0x03] = .ok (.adcAbs 0x00 0x03, []) ∧
  decode [0b00011110#8, 0x00, 0x03] = .ok (.aslAbx 0x00 0x03, []) ∧
  decode [0b11010000#8, 0xFB] = .ok (.bne 0xFB, []) ∧
  decode [0b01101100#8, 0x00, 0x03] = .ok (.jmpInd 0x00 0x03, []) ∧
  decode [0b01001000#8] = .ok (.pha, []) ∧
  decode [0b10011010#8] = .ok (.txs, []) ∧
  decode [0b01000000#8] = .ok (.rti, []) ∧
  decode [0b00000010#8] = .ok (.unmapped02, [])
end

