-- ==== Sys2Proof/Laws/Bus.lean ====
section
/-! SUPPORT. Buses by handle: what an operation on one bus leaves on every bus (20_memory.md R60 to R69). -/

namespace Sys2Proof.Machine

/-- An operation on one bus leaves every other bus as it was. -/
theorem Buses.get_modify_ne {id id' : BusId} (h : id' ≠ id) (f : Bus → Bus) (bs : Buses) :
    (bs.modify id f).get id' = bs.get id' := by
  cases id with
  | aux n =>
    cases id' with
    | aux k =>
      have hk : n ≠ k := fun e => h (by rw [e])
      simp only [Buses.get, Buses.modify, List.getD_eq_getElem?_getD, List.getElem?_modify, if_neg hk]
      cases bs.aux[k]? <;> rfl
    | _ => rfl
  | _ => cases id' <;> first | rfl | exact absurd rfl h

/-- An operation on a bus that the system has. -/
theorem Buses.get_modify_self {id : BusId} {bs : Buses} (h : bs.has id = true) (f : Bus → Bus) :
    (bs.modify id f).get id = f (bs.get id) := by
  cases id with
  | aux n =>
    have hn : n < bs.aux.length := of_decide_eq_true h
    simp [Buses.get, Buses.modify, List.getD_eq_getElem?_getD, List.getElem?_eq_getElem hn]
  | _ => rfl

theorem Buses.get_map (f : Bus → Bus) {id : BusId} {bs : Buses} (h : bs.has id = true) : (bs.map f).get id = f (bs.get id) := by
  cases id with
  | aux n =>
    have hn : n < bs.aux.length := of_decide_eq_true h
    simp [Buses.get, Buses.map, List.getD_eq_getElem?_getD, List.getElem?_eq_getElem hn]
  | _ => rfl

@[simp] theorem Buses.ids_modify (id : BusId) (f : Bus → Bus) (bs : Buses) : (bs.modify id f).ids = bs.ids := by
  cases id <;> simp [Buses.ids, Buses.modify]

@[simp] theorem Buses.ids_map (f : Bus → Bus) (bs : Buses) : (bs.map f).ids = bs.ids := by
  simp [Buses.ids, Buses.map]

@[simp] theorem Buses.has_modify (id id' : BusId) (f : Bus → Bus) (bs : Buses) : (bs.modify id f).has id' = bs.has id' := by
  cases id' with
  | aux k => cases id <;> first | rfl | simp [Buses.has, Buses.modify]
  | _ => rfl

@[simp] theorem Buses.has_map (id : BusId) (f : Bus → Bus) (bs : Buses) : (bs.map f).has id = bs.has id := by
  cases id <;> simp [Buses.has, Buses.map]

/-- The system has the bus of a handle exactly when the handle is in the list of its handles. -/
theorem Buses.mem_ids {bs : Buses} {id : BusId} : id ∈ bs.ids ↔ bs.has id = true := by
  cases id <;> simp [Buses.ids, Buses.has]

/-- A clock cycle leaves a bus that no output port is wired to as its ticks left it. -/
theorem Buses.get_holdOutputs {p : Ports} {id : BusId} (h : id ∉ p.outputs) (c : Cpu) (l : DataLine) (bs : Buses) :
    (bs.holdOutputs p c l).get id = bs.get id := by
  simp only [Ports.outputs, List.mem_cons, List.not_mem_nil, or_false, not_or] at h
  rw [Buses.holdOutputs, Buses.get_modify_ne h.2.1, Buses.get_modify_ne h.2.2.2, Buses.get_modify_ne h.2.2.1,
    Buses.get_modify_ne h.1]

end Sys2Proof.Machine
end

