-- ==== Sys2Proof/Laws/Memory.lean ====
section
/-! SUPPORT. Laws of the byte array: every write keeps the canonical form; a read after a write (20_memory.md R82, R85). -/

namespace Sys2Proof.Machine

theorem Memory.wfFrom_le {lo lo' : Nat} {m : Memory} (hle : lo' ≤ lo) (h : Memory.wfFrom lo m = true) :
    Memory.wfFrom lo' m = true := by
  cases m with
  | nil => rfl
  | cons e m =>
    obtain ⟨k, v⟩ := e
    simp only [Memory.wfFrom, Bool.and_eq_true, decide_eq_true_eq] at h ⊢
    exact ⟨⟨by omega, h.1.2⟩, h.2⟩

/-- An address below every key reads as unlisted. -/
theorem Memory.read_below {lo a : Nat} {m : Memory} (h : Memory.wfFrom lo m = true) (ha : a < lo) :
    Memory.read m a = Memory.unlisted := by
  induction m generalizing lo with
  | nil => rfl
  | cons e m ih =>
    obtain ⟨k, v⟩ := e
    simp only [Memory.wfFrom, Bool.and_eq_true, decide_eq_true_eq] at h
    have hk : a ≠ k := by omega
    simp only [Memory.read, if_neg hk]
    exact ih h.2 (by omega)

theorem Memory.wfFrom_write {lo a : Nat} {m : Memory} (v : Byte) (h : Memory.wfFrom lo m = true) (ha : lo ≤ a) :
    Memory.wfFrom lo (Memory.write m a v) = true := by
  induction m generalizing lo with
  | nil =>
    by_cases hv : v = Memory.unlisted <;> simp [Memory.write, Memory.wfFrom, hv, ha]
  | cons e m ih =>
    obtain ⟨k, w⟩ := e
    have h' := h
    simp only [Memory.wfFrom, Bool.and_eq_true, decide_eq_true_eq] at h'
    obtain ⟨⟨hk, hw⟩, hm⟩ := h'
    simp only [Memory.write]
    by_cases hv : v = Memory.unlisted
    · split
      · simpa [hv] using h
      · split
        · simpa [hv] using Memory.wfFrom_le (by omega) hm
        · have := ih hm (by omega)
          simp [Memory.wfFrom, hk, hw, this]
    · split
      · simp only [Memory.wfFrom, Bool.and_eq_true, decide_eq_true_eq]
        exact ⟨⟨ha, hv⟩, ⟨by omega, hw⟩, hm⟩
      · split
        · simp only [Memory.wfFrom, Bool.and_eq_true, decide_eq_true_eq]
          exact ⟨⟨ha, hv⟩, by rename_i h1 h2; subst h2; exact hm⟩
        · have := ih hm (by omega)
          simp [Memory.wfFrom, hk, hw, this]

/-- Every write keeps the canonical form. -/
theorem Memory.wf_write {m : Memory} (a : Nat) (v : Byte) (h : Memory.wf m = true) :
    Memory.wf (Memory.write m a v) = true :=
  Memory.wfFrom_write v h (Nat.zero_le a)

theorem Memory.read_write_from {lo : Nat} {m : Memory} (a b : Nat) (v : Byte) (h : Memory.wfFrom lo m = true) :
    Memory.read (Memory.write m a v) b = if b = a then v else Memory.read m b := by
  induction m generalizing lo with
  | nil =>
    by_cases hv : v = Memory.unlisted <;> by_cases hb : b = a <;> simp [Memory.write, Memory.read, hv, hb]
  | cons e m ih =>
    obtain ⟨k, w⟩ := e
    have h' := h
    simp only [Memory.wfFrom, Bool.and_eq_true, decide_eq_true_eq] at h'
    obtain ⟨⟨hk, hw⟩, hm⟩ := h'
    simp only [Memory.write]
    split
    · rename_i hak
      by_cases hv : v = Memory.unlisted
      · by_cases hb : b = a
        · have hbk : b ≠ k := by omega
          simp only [if_pos hv, Memory.read, if_neg hbk, if_pos hb]
          rw [Memory.read_below hm (by omega), hv]
        · simp [hv, hb]
      · by_cases hb : b = a <;> simp [hv, Memory.read, hb]
    · split
      · rename_i h1 h2
        by_cases hv : v = Memory.unlisted
        · by_cases hb : b = a
          · simp only [if_pos hv, if_pos hb]
            rw [Memory.read_below hm (by omega), hv]
          · have hbk : b ≠ k := by omega
            simp [hv, hb, Memory.read, hbk]
        · by_cases hb : b = a
          · simp [hv, Memory.read, hb]
          · have hbk : b ≠ k := by omega
            simp [hv, Memory.read, hb, hbk]
      · by_cases hbk : b = k
        · have hb : b ≠ a := by omega
          simp [Memory.read, hbk]
          intro hka; omega
        · simp only [Memory.read, if_neg hbk]
          exact ih hm

/-- A read after a write gives the byte written at its address and the old byte elsewhere. -/
theorem Memory.read_write {m : Memory} (a b : Nat) (v : Byte) (h : Memory.wf m = true) :
    Memory.read (Memory.write m a v) b = if b = a then v else Memory.read m b :=
  Memory.read_write_from a b v h

/-- Writing the same byte twice is writing it once. -/
theorem Memory.write_write (m : Memory) (a : Nat) (v : Byte) (h : Memory.wf m = true) :
    Memory.write (Memory.write m a v) a v = Memory.write m a v := by
  suffices H : ∀ lo, Memory.wfFrom lo m = true →
      Memory.write (Memory.write m a v) a v = Memory.write m a v from H 0 h
  induction m with
  | nil => intro lo _; by_cases hv : v = Memory.unlisted <;> simp [Memory.write, hv]
  | cons e m ih =>
    intro lo hl
    obtain ⟨k, w⟩ := e
    simp only [Memory.wfFrom, Bool.and_eq_true, decide_eq_true_eq] at hl
    obtain ⟨⟨_, hw⟩, hm⟩ := hl
    have hm' : Memory.wf m = true := Memory.wfFrom_le (Nat.zero_le _) hm
    simp only [Memory.write]
    split
    · by_cases hv : v = Memory.unlisted <;> simp [Memory.write, *]
    · split
      · by_cases hv : v = Memory.unlisted
        · simp only [if_pos hv]
          cases m with
          | nil => simp [Memory.write, hv]
          | cons e' m' =>
            obtain ⟨k', w'⟩ := e'
            simp only [Memory.wfFrom, Bool.and_eq_true, decide_eq_true_eq] at hm
            have : a < k' := by omega
            simp [Memory.write, hv, this]
        · simp [Memory.write, hv]
      · rename_i h1 h2
        simp only [Memory.write, if_neg h1, if_neg h2]
        rw [ih hm' _ hm]

theorem Memory.all_write {m : Memory} {a : Nat} {v : Byte} {q : Host.Cell → Bool}
    (h : m.all q = true) (hq : q (a, v) = true) : (Memory.write m a v).all q = true := by
  induction m with
  | nil => by_cases hv : v = Memory.unlisted <;> simp [Memory.write, hv, hq]
  | cons e m ih =>
    obtain ⟨k, w⟩ := e
    simp only [List.all_cons, Bool.and_eq_true] at h
    simp only [Memory.write]
    split
    · by_cases hv : v = Memory.unlisted <;> simp [hv, h.1, h.2, hq]
    · split
      · by_cases hv : v = Memory.unlisted <;> simp [hv, h.2, hq]
      · simp [h.1, ih h.2]

/-- An index lies inside the array (R84). -/
theorem MemDevice.index_lt (d : MemDevice) (addr : Nat) : d.index addr < 2 ^ d.aw := by
  unfold MemDevice.index
  rw [Nat.and_two_pow_sub_one_eq_mod]
  exact Nat.mod_lt _ (Nat.two_pow_pos _)

/-- A device's store keeps its array in canonical form and within its size. -/
theorem MemDevice.arrayOk_writeAt {d : MemDevice} (addr : Nat) (v : Byte) (h : d.arrayOk = true) :
    (d.writeAt addr v).arrayOk = true := by
  simp only [MemDevice.arrayOk, Bool.and_eq_true] at h ⊢
  refine ⟨Memory.wf_write _ _ h.1, Memory.all_write h.2 ?_⟩
  exact decide_eq_true (d.index_lt addr)

end Sys2Proof.Machine
end

