-- ==== Sys2Proof/Laws/State.lean ====
section
/-! SUPPORT. One lemma per field per update: what each named operation on the CPU and on the state does to each field. -/

namespace Sys2Proof.Machine

/-! #### `Cpu.fetch` -/

@[simp] theorem Cpu.fetch_a (w : Word) (c : Cpu) : (c.fetch w).a = c.a := rfl
@[simp] theorem Cpu.fetch_x (w : Word) (c : Cpu) : (c.fetch w).x = c.x := rfl
@[simp] theorem Cpu.fetch_y (w : Word) (c : Cpu) : (c.fetch w).y = c.y := rfl
@[simp] theorem Cpu.fetch_sp (w : Word) (c : Cpu) : (c.fetch w).sp = c.sp := rfl
@[simp] theorem Cpu.fetch_p (w : Word) (c : Cpu) : (c.fetch w).p = c.p := rfl
@[simp] theorem Cpu.fetch_pc (w : Word) (c : Cpu) : (c.fetch w).pc = c.pc := rfl
@[simp] theorem Cpu.fetch_paddr (w : Word) (c : Cpu) : (c.fetch w).paddr = w := rfl
@[simp] theorem Cpu.fetch_pdata (w : Word) (c : Cpu) : (c.fetch w).pdata = c.pdata := rfl
@[simp] theorem Cpu.fetch_prw (w : Word) (c : Cpu) : (c.fetch w).prw = true := rfl
@[simp] theorem Cpu.fetch_psync (w : Word) (c : Cpu) : (c.fetch w).psync = false := rfl
@[simp] theorem Cpu.fetch_oaddr (w : Word) (c : Cpu) : (c.fetch w).oaddr = c.oaddr := rfl
@[simp] theorem Cpu.fetch_odata (w : Word) (c : Cpu) : (c.fetch w).odata = c.odata := rfl
@[simp] theorem Cpu.fetch_orw (w : Word) (c : Cpu) : (c.fetch w).orw = c.orw := rfl
@[simp] theorem Cpu.fetch_osync (w : Word) (c : Cpu) : (c.fetch w).osync = c.osync := rfl
@[simp] theorem Cpu.fetch_dbuf (w : Word) (c : Cpu) : (c.fetch w).dbuf = c.dbuf := rfl
@[simp] theorem Cpu.fetch_tmp (w : Word) (c : Cpu) : (c.fetch w).tmp = c.tmp := rfl
@[simp] theorem Cpu.fetch_tl (w : Word) (c : Cpu) : (c.fetch w).tl = c.tl := rfl
@[simp] theorem Cpu.fetch_ir (w : Word) (c : Cpu) : (c.fetch w).ir = c.ir := rfl
@[simp] theorem Cpu.fetch_cyc (w : Word) (c : Cpu) : (c.fetch w).cyc = c.cyc := rfl
@[simp] theorem Cpu.fetch_nmiPend (w : Word) (c : Cpu) : (c.fetch w).nmiPend = c.nmiPend := rfl
@[simp] theorem Cpu.fetch_irqPend (w : Word) (c : Cpu) : (c.fetch w).irqPend = c.irqPend := rfl
@[simp] theorem Cpu.fetch_resPend (w : Word) (c : Cpu) : (c.fetch w).resPend = c.resPend := rfl
@[simp] theorem Cpu.fetch_lastClk (w : Word) (c : Cpu) : (c.fetch w).lastClk = c.lastClk := rfl
@[simp] theorem Cpu.fetch_lastNmi (w : Word) (c : Cpu) : (c.fetch w).lastNmi = c.lastNmi := rfl

/-! #### `Cpu.store` -/

@[simp] theorem Cpu.store_a (w : Word) (v : Byte) (c : Cpu) : (c.store w v).a = c.a := rfl
@[simp] theorem Cpu.store_x (w : Word) (v : Byte) (c : Cpu) : (c.store w v).x = c.x := rfl
@[simp] theorem Cpu.store_y (w : Word) (v : Byte) (c : Cpu) : (c.store w v).y = c.y := rfl
@[simp] theorem Cpu.store_sp (w : Word) (v : Byte) (c : Cpu) : (c.store w v).sp = c.sp := rfl
@[simp] theorem Cpu.store_p (w : Word) (v : Byte) (c : Cpu) : (c.store w v).p = c.p := rfl
@[simp] theorem Cpu.store_pc (w : Word) (v : Byte) (c : Cpu) : (c.store w v).pc = c.pc := rfl
@[simp] theorem Cpu.store_paddr (w : Word) (v : Byte) (c : Cpu) : (c.store w v).paddr = w := rfl
@[simp] theorem Cpu.store_pdata (w : Word) (v : Byte) (c : Cpu) : (c.store w v).pdata = v := rfl
@[simp] theorem Cpu.store_prw (w : Word) (v : Byte) (c : Cpu) : (c.store w v).prw = false := rfl
@[simp] theorem Cpu.store_psync (w : Word) (v : Byte) (c : Cpu) : (c.store w v).psync = false := rfl
@[simp] theorem Cpu.store_oaddr (w : Word) (v : Byte) (c : Cpu) : (c.store w v).oaddr = c.oaddr := rfl
@[simp] theorem Cpu.store_odata (w : Word) (v : Byte) (c : Cpu) : (c.store w v).odata = c.odata := rfl
@[simp] theorem Cpu.store_orw (w : Word) (v : Byte) (c : Cpu) : (c.store w v).orw = c.orw := rfl
@[simp] theorem Cpu.store_osync (w : Word) (v : Byte) (c : Cpu) : (c.store w v).osync = c.osync := rfl
@[simp] theorem Cpu.store_dbuf (w : Word) (v : Byte) (c : Cpu) : (c.store w v).dbuf = c.dbuf := rfl
@[simp] theorem Cpu.store_tmp (w : Word) (v : Byte) (c : Cpu) : (c.store w v).tmp = c.tmp := rfl
@[simp] theorem Cpu.store_tl (w : Word) (v : Byte) (c : Cpu) : (c.store w v).tl = c.tl := rfl
@[simp] theorem Cpu.store_ir (w : Word) (v : Byte) (c : Cpu) : (c.store w v).ir = c.ir := rfl
@[simp] theorem Cpu.store_cyc (w : Word) (v : Byte) (c : Cpu) : (c.store w v).cyc = c.cyc := rfl
@[simp] theorem Cpu.store_nmiPend (w : Word) (v : Byte) (c : Cpu) : (c.store w v).nmiPend = c.nmiPend := rfl
@[simp] theorem Cpu.store_irqPend (w : Word) (v : Byte) (c : Cpu) : (c.store w v).irqPend = c.irqPend := rfl
@[simp] theorem Cpu.store_resPend (w : Word) (v : Byte) (c : Cpu) : (c.store w v).resPend = c.resPend := rfl
@[simp] theorem Cpu.store_lastClk (w : Word) (v : Byte) (c : Cpu) : (c.store w v).lastClk = c.lastClk := rfl
@[simp] theorem Cpu.store_lastNmi (w : Word) (v : Byte) (c : Cpu) : (c.store w v).lastNmi = c.lastNmi := rfl

/-! #### `Cpu.idle` -/

@[simp] theorem Cpu.idle_a (c : Cpu) : (c.idle).a = c.a := rfl
@[simp] theorem Cpu.idle_x (c : Cpu) : (c.idle).x = c.x := rfl
@[simp] theorem Cpu.idle_y (c : Cpu) : (c.idle).y = c.y := rfl
@[simp] theorem Cpu.idle_sp (c : Cpu) : (c.idle).sp = c.sp := rfl
@[simp] theorem Cpu.idle_p (c : Cpu) : (c.idle).p = c.p := rfl
@[simp] theorem Cpu.idle_pc (c : Cpu) : (c.idle).pc = c.pc := rfl
@[simp] theorem Cpu.idle_paddr (c : Cpu) : (c.idle).paddr = c.paddr := rfl
@[simp] theorem Cpu.idle_pdata (c : Cpu) : (c.idle).pdata = c.pdata := rfl
@[simp] theorem Cpu.idle_prw (c : Cpu) : (c.idle).prw = true := rfl
@[simp] theorem Cpu.idle_psync (c : Cpu) : (c.idle).psync = false := rfl
@[simp] theorem Cpu.idle_oaddr (c : Cpu) : (c.idle).oaddr = c.oaddr := rfl
@[simp] theorem Cpu.idle_odata (c : Cpu) : (c.idle).odata = c.odata := rfl
@[simp] theorem Cpu.idle_orw (c : Cpu) : (c.idle).orw = c.orw := rfl
@[simp] theorem Cpu.idle_osync (c : Cpu) : (c.idle).osync = c.osync := rfl
@[simp] theorem Cpu.idle_dbuf (c : Cpu) : (c.idle).dbuf = c.dbuf := rfl
@[simp] theorem Cpu.idle_tmp (c : Cpu) : (c.idle).tmp = c.tmp := rfl
@[simp] theorem Cpu.idle_tl (c : Cpu) : (c.idle).tl = c.tl := rfl
@[simp] theorem Cpu.idle_ir (c : Cpu) : (c.idle).ir = c.ir := rfl
@[simp] theorem Cpu.idle_cyc (c : Cpu) : (c.idle).cyc = c.cyc := rfl
@[simp] theorem Cpu.idle_nmiPend (c : Cpu) : (c.idle).nmiPend = c.nmiPend := rfl
@[simp] theorem Cpu.idle_irqPend (c : Cpu) : (c.idle).irqPend = c.irqPend := rfl
@[simp] theorem Cpu.idle_resPend (c : Cpu) : (c.idle).resPend = c.resPend := rfl
@[simp] theorem Cpu.idle_lastClk (c : Cpu) : (c.idle).lastClk = c.lastClk := rfl
@[simp] theorem Cpu.idle_lastNmi (c : Cpu) : (c.idle).lastNmi = c.lastNmi := rfl

/-! #### `Cpu.retire` -/

@[simp] theorem Cpu.retire_a (c : Cpu) : (c.retire).a = c.a := rfl
@[simp] theorem Cpu.retire_x (c : Cpu) : (c.retire).x = c.x := rfl
@[simp] theorem Cpu.retire_y (c : Cpu) : (c.retire).y = c.y := rfl
@[simp] theorem Cpu.retire_sp (c : Cpu) : (c.retire).sp = c.sp := rfl
@[simp] theorem Cpu.retire_p (c : Cpu) : (c.retire).p = c.p := rfl
@[simp] theorem Cpu.retire_pc (c : Cpu) : (c.retire).pc = c.pc := rfl
@[simp] theorem Cpu.retire_paddr (c : Cpu) : (c.retire).paddr = c.pc := rfl
@[simp] theorem Cpu.retire_pdata (c : Cpu) : (c.retire).pdata = c.pdata := rfl
@[simp] theorem Cpu.retire_prw (c : Cpu) : (c.retire).prw = true := rfl
@[simp] theorem Cpu.retire_psync (c : Cpu) : (c.retire).psync = true := rfl
@[simp] theorem Cpu.retire_oaddr (c : Cpu) : (c.retire).oaddr = c.oaddr := rfl
@[simp] theorem Cpu.retire_odata (c : Cpu) : (c.retire).odata = c.odata := rfl
@[simp] theorem Cpu.retire_orw (c : Cpu) : (c.retire).orw = c.orw := rfl
@[simp] theorem Cpu.retire_osync (c : Cpu) : (c.retire).osync = c.osync := rfl
@[simp] theorem Cpu.retire_dbuf (c : Cpu) : (c.retire).dbuf = c.dbuf := rfl
@[simp] theorem Cpu.retire_tmp (c : Cpu) : (c.retire).tmp = c.tmp := rfl
@[simp] theorem Cpu.retire_tl (c : Cpu) : (c.retire).tl = c.tl := rfl
@[simp] theorem Cpu.retire_ir (c : Cpu) : (c.retire).ir = c.ir := rfl
@[simp] theorem Cpu.retire_cyc (c : Cpu) : (c.retire).cyc = c.cyc := rfl
@[simp] theorem Cpu.retire_nmiPend (c : Cpu) : (c.retire).nmiPend = c.nmiPend := rfl
@[simp] theorem Cpu.retire_irqPend (c : Cpu) : (c.retire).irqPend = c.irqPend := rfl
@[simp] theorem Cpu.retire_resPend (c : Cpu) : (c.retire).resPend = c.resPend := rfl
@[simp] theorem Cpu.retire_lastClk (c : Cpu) : (c.retire).lastClk = c.lastClk := rfl
@[simp] theorem Cpu.retire_lastNmi (c : Cpu) : (c.retire).lastNmi = c.lastNmi := rfl

/-! #### `Cpu.publish` -/

@[simp] theorem Cpu.publish_a (c : Cpu) : (c.publish).a = c.a := rfl
@[simp] theorem Cpu.publish_x (c : Cpu) : (c.publish).x = c.x := rfl
@[simp] theorem Cpu.publish_y (c : Cpu) : (c.publish).y = c.y := rfl
@[simp] theorem Cpu.publish_sp (c : Cpu) : (c.publish).sp = c.sp := rfl
@[simp] theorem Cpu.publish_p (c : Cpu) : (c.publish).p = c.p := rfl
@[simp] theorem Cpu.publish_pc (c : Cpu) : (c.publish).pc = c.pc := rfl
@[simp] theorem Cpu.publish_paddr (c : Cpu) : (c.publish).paddr = c.paddr := rfl
@[simp] theorem Cpu.publish_pdata (c : Cpu) : (c.publish).pdata = c.pdata := rfl
@[simp] theorem Cpu.publish_prw (c : Cpu) : (c.publish).prw = c.prw := rfl
@[simp] theorem Cpu.publish_psync (c : Cpu) : (c.publish).psync = c.psync := rfl
@[simp] theorem Cpu.publish_oaddr (c : Cpu) : (c.publish).oaddr = c.paddr := rfl
@[simp] theorem Cpu.publish_odata (c : Cpu) : (c.publish).odata = c.pdata := rfl
@[simp] theorem Cpu.publish_orw (c : Cpu) : (c.publish).orw = c.prw := rfl
@[simp] theorem Cpu.publish_osync (c : Cpu) : (c.publish).osync = c.psync := rfl
@[simp] theorem Cpu.publish_dbuf (c : Cpu) : (c.publish).dbuf = c.dbuf := rfl
@[simp] theorem Cpu.publish_tmp (c : Cpu) : (c.publish).tmp = c.tmp := rfl
@[simp] theorem Cpu.publish_tl (c : Cpu) : (c.publish).tl = c.tl := rfl
@[simp] theorem Cpu.publish_ir (c : Cpu) : (c.publish).ir = c.ir := rfl
@[simp] theorem Cpu.publish_cyc (c : Cpu) : (c.publish).cyc = c.cyc := rfl
@[simp] theorem Cpu.publish_nmiPend (c : Cpu) : (c.publish).nmiPend = c.nmiPend := rfl
@[simp] theorem Cpu.publish_irqPend (c : Cpu) : (c.publish).irqPend = c.irqPend := rfl
@[simp] theorem Cpu.publish_resPend (c : Cpu) : (c.publish).resPend = c.resPend := rfl
@[simp] theorem Cpu.publish_lastClk (c : Cpu) : (c.publish).lastClk = c.lastClk := rfl
@[simp] theorem Cpu.publish_lastNmi (c : Cpu) : (c.publish).lastNmi = c.lastNmi := rfl

/-! #### `Cpu.push` -/

@[simp] theorem Cpu.push_a (cfg : Config) (v : Byte) (c : Cpu) : (c.push cfg v).a = c.a := rfl
@[simp] theorem Cpu.push_x (cfg : Config) (v : Byte) (c : Cpu) : (c.push cfg v).x = c.x := rfl
@[simp] theorem Cpu.push_y (cfg : Config) (v : Byte) (c : Cpu) : (c.push cfg v).y = c.y := rfl
@[simp] theorem Cpu.push_sp (cfg : Config) (v : Byte) (c : Cpu) : (c.push cfg v).sp = (c.sp - 1) := rfl
@[simp] theorem Cpu.push_p (cfg : Config) (v : Byte) (c : Cpu) : (c.push cfg v).p = c.p := rfl
@[simp] theorem Cpu.push_pc (cfg : Config) (v : Byte) (c : Cpu) : (c.push cfg v).pc = c.pc := rfl
@[simp] theorem Cpu.push_paddr (cfg : Config) (v : Byte) (c : Cpu) : (c.push cfg v).paddr = (stackAddr cfg c.sp) := rfl
@[simp] theorem Cpu.push_pdata (cfg : Config) (v : Byte) (c : Cpu) : (c.push cfg v).pdata = v := rfl
@[simp] theorem Cpu.push_prw (cfg : Config) (v : Byte) (c : Cpu) : (c.push cfg v).prw = false := rfl
@[simp] theorem Cpu.push_psync (cfg : Config) (v : Byte) (c : Cpu) : (c.push cfg v).psync = false := rfl
@[simp] theorem Cpu.push_oaddr (cfg : Config) (v : Byte) (c : Cpu) : (c.push cfg v).oaddr = c.oaddr := rfl
@[simp] theorem Cpu.push_odata (cfg : Config) (v : Byte) (c : Cpu) : (c.push cfg v).odata = c.odata := rfl
@[simp] theorem Cpu.push_orw (cfg : Config) (v : Byte) (c : Cpu) : (c.push cfg v).orw = c.orw := rfl
@[simp] theorem Cpu.push_osync (cfg : Config) (v : Byte) (c : Cpu) : (c.push cfg v).osync = c.osync := rfl
@[simp] theorem Cpu.push_dbuf (cfg : Config) (v : Byte) (c : Cpu) : (c.push cfg v).dbuf = c.dbuf := rfl
@[simp] theorem Cpu.push_tmp (cfg : Config) (v : Byte) (c : Cpu) : (c.push cfg v).tmp = c.tmp := rfl
@[simp] theorem Cpu.push_tl (cfg : Config) (v : Byte) (c : Cpu) : (c.push cfg v).tl = c.tl := rfl
@[simp] theorem Cpu.push_ir (cfg : Config) (v : Byte) (c : Cpu) : (c.push cfg v).ir = c.ir := rfl
@[simp] theorem Cpu.push_cyc (cfg : Config) (v : Byte) (c : Cpu) : (c.push cfg v).cyc = c.cyc := rfl
@[simp] theorem Cpu.push_nmiPend (cfg : Config) (v : Byte) (c : Cpu) : (c.push cfg v).nmiPend = c.nmiPend := rfl
@[simp] theorem Cpu.push_irqPend (cfg : Config) (v : Byte) (c : Cpu) : (c.push cfg v).irqPend = c.irqPend := rfl
@[simp] theorem Cpu.push_resPend (cfg : Config) (v : Byte) (c : Cpu) : (c.push cfg v).resPend = c.resPend := rfl
@[simp] theorem Cpu.push_lastClk (cfg : Config) (v : Byte) (c : Cpu) : (c.push cfg v).lastClk = c.lastClk := rfl
@[simp] theorem Cpu.push_lastNmi (cfg : Config) (v : Byte) (c : Cpu) : (c.push cfg v).lastNmi = c.lastNmi := rfl

/-! #### `Cpu.pull` -/

@[simp] theorem Cpu.pull_a (cfg : Config) (c : Cpu) : (c.pull cfg).a = c.a := rfl
@[simp] theorem Cpu.pull_x (cfg : Config) (c : Cpu) : (c.pull cfg).x = c.x := rfl
@[simp] theorem Cpu.pull_y (cfg : Config) (c : Cpu) : (c.pull cfg).y = c.y := rfl
@[simp] theorem Cpu.pull_sp (cfg : Config) (c : Cpu) : (c.pull cfg).sp = (c.sp + 1) := rfl
@[simp] theorem Cpu.pull_p (cfg : Config) (c : Cpu) : (c.pull cfg).p = c.p := rfl
@[simp] theorem Cpu.pull_pc (cfg : Config) (c : Cpu) : (c.pull cfg).pc = c.pc := rfl
@[simp] theorem Cpu.pull_paddr (cfg : Config) (c : Cpu) : (c.pull cfg).paddr = (stackAddr cfg (c.sp + 1)) := rfl
@[simp] theorem Cpu.pull_pdata (cfg : Config) (c : Cpu) : (c.pull cfg).pdata = c.pdata := rfl
@[simp] theorem Cpu.pull_prw (cfg : Config) (c : Cpu) : (c.pull cfg).prw = true := rfl
@[simp] theorem Cpu.pull_psync (cfg : Config) (c : Cpu) : (c.pull cfg).psync = false := rfl
@[simp] theorem Cpu.pull_oaddr (cfg : Config) (c : Cpu) : (c.pull cfg).oaddr = c.oaddr := rfl
@[simp] theorem Cpu.pull_odata (cfg : Config) (c : Cpu) : (c.pull cfg).odata = c.odata := rfl
@[simp] theorem Cpu.pull_orw (cfg : Config) (c : Cpu) : (c.pull cfg).orw = c.orw := rfl
@[simp] theorem Cpu.pull_osync (cfg : Config) (c : Cpu) : (c.pull cfg).osync = c.osync := rfl
@[simp] theorem Cpu.pull_dbuf (cfg : Config) (c : Cpu) : (c.pull cfg).dbuf = c.dbuf := rfl
@[simp] theorem Cpu.pull_tmp (cfg : Config) (c : Cpu) : (c.pull cfg).tmp = c.tmp := rfl
@[simp] theorem Cpu.pull_tl (cfg : Config) (c : Cpu) : (c.pull cfg).tl = c.tl := rfl
@[simp] theorem Cpu.pull_ir (cfg : Config) (c : Cpu) : (c.pull cfg).ir = c.ir := rfl
@[simp] theorem Cpu.pull_cyc (cfg : Config) (c : Cpu) : (c.pull cfg).cyc = c.cyc := rfl
@[simp] theorem Cpu.pull_nmiPend (cfg : Config) (c : Cpu) : (c.pull cfg).nmiPend = c.nmiPend := rfl
@[simp] theorem Cpu.pull_irqPend (cfg : Config) (c : Cpu) : (c.pull cfg).irqPend = c.irqPend := rfl
@[simp] theorem Cpu.pull_resPend (cfg : Config) (c : Cpu) : (c.pull cfg).resPend = c.resPend := rfl
@[simp] theorem Cpu.pull_lastClk (cfg : Config) (c : Cpu) : (c.pull cfg).lastClk = c.lastClk := rfl
@[simp] theorem Cpu.pull_lastNmi (cfg : Config) (c : Cpu) : (c.pull cfg).lastNmi = c.lastNmi := rfl

/-! #### `Cpu.incPc` -/

@[simp] theorem Cpu.incPc_a (c : Cpu) : (c.incPc).a = c.a := rfl
@[simp] theorem Cpu.incPc_x (c : Cpu) : (c.incPc).x = c.x := rfl
@[simp] theorem Cpu.incPc_y (c : Cpu) : (c.incPc).y = c.y := rfl
@[simp] theorem Cpu.incPc_sp (c : Cpu) : (c.incPc).sp = c.sp := rfl
@[simp] theorem Cpu.incPc_p (c : Cpu) : (c.incPc).p = c.p := rfl
@[simp] theorem Cpu.incPc_pc (c : Cpu) : (c.incPc).pc = (c.pc + 1) := rfl
@[simp] theorem Cpu.incPc_paddr (c : Cpu) : (c.incPc).paddr = c.paddr := rfl
@[simp] theorem Cpu.incPc_pdata (c : Cpu) : (c.incPc).pdata = c.pdata := rfl
@[simp] theorem Cpu.incPc_prw (c : Cpu) : (c.incPc).prw = c.prw := rfl
@[simp] theorem Cpu.incPc_psync (c : Cpu) : (c.incPc).psync = c.psync := rfl
@[simp] theorem Cpu.incPc_oaddr (c : Cpu) : (c.incPc).oaddr = c.oaddr := rfl
@[simp] theorem Cpu.incPc_odata (c : Cpu) : (c.incPc).odata = c.odata := rfl
@[simp] theorem Cpu.incPc_orw (c : Cpu) : (c.incPc).orw = c.orw := rfl
@[simp] theorem Cpu.incPc_osync (c : Cpu) : (c.incPc).osync = c.osync := rfl
@[simp] theorem Cpu.incPc_dbuf (c : Cpu) : (c.incPc).dbuf = c.dbuf := rfl
@[simp] theorem Cpu.incPc_tmp (c : Cpu) : (c.incPc).tmp = c.tmp := rfl
@[simp] theorem Cpu.incPc_tl (c : Cpu) : (c.incPc).tl = c.tl := rfl
@[simp] theorem Cpu.incPc_ir (c : Cpu) : (c.incPc).ir = c.ir := rfl
@[simp] theorem Cpu.incPc_cyc (c : Cpu) : (c.incPc).cyc = c.cyc := rfl
@[simp] theorem Cpu.incPc_nmiPend (c : Cpu) : (c.incPc).nmiPend = c.nmiPend := rfl
@[simp] theorem Cpu.incPc_irqPend (c : Cpu) : (c.incPc).irqPend = c.irqPend := rfl
@[simp] theorem Cpu.incPc_resPend (c : Cpu) : (c.incPc).resPend = c.resPend := rfl
@[simp] theorem Cpu.incPc_lastClk (c : Cpu) : (c.incPc).lastClk = c.lastClk := rfl
@[simp] theorem Cpu.incPc_lastNmi (c : Cpu) : (c.incPc).lastNmi = c.lastNmi := rfl

/-! #### `Cpu.setFlag` -/

@[simp] theorem Cpu.setFlag_a (f : Flag) (on : Bool) (c : Cpu) : (c.setFlag f on).a = c.a := rfl
@[simp] theorem Cpu.setFlag_x (f : Flag) (on : Bool) (c : Cpu) : (c.setFlag f on).x = c.x := rfl
@[simp] theorem Cpu.setFlag_y (f : Flag) (on : Bool) (c : Cpu) : (c.setFlag f on).y = c.y := rfl
@[simp] theorem Cpu.setFlag_sp (f : Flag) (on : Bool) (c : Cpu) : (c.setFlag f on).sp = c.sp := rfl
@[simp] theorem Cpu.setFlag_p (f : Flag) (on : Bool) (c : Cpu) : (c.setFlag f on).p = (Machine.setFlag f on c.p) := rfl
@[simp] theorem Cpu.setFlag_pc (f : Flag) (on : Bool) (c : Cpu) : (c.setFlag f on).pc = c.pc := rfl
@[simp] theorem Cpu.setFlag_paddr (f : Flag) (on : Bool) (c : Cpu) : (c.setFlag f on).paddr = c.paddr := rfl
@[simp] theorem Cpu.setFlag_pdata (f : Flag) (on : Bool) (c : Cpu) : (c.setFlag f on).pdata = c.pdata := rfl
@[simp] theorem Cpu.setFlag_prw (f : Flag) (on : Bool) (c : Cpu) : (c.setFlag f on).prw = c.prw := rfl
@[simp] theorem Cpu.setFlag_psync (f : Flag) (on : Bool) (c : Cpu) : (c.setFlag f on).psync = c.psync := rfl
@[simp] theorem Cpu.setFlag_oaddr (f : Flag) (on : Bool) (c : Cpu) : (c.setFlag f on).oaddr = c.oaddr := rfl
@[simp] theorem Cpu.setFlag_odata (f : Flag) (on : Bool) (c : Cpu) : (c.setFlag f on).odata = c.odata := rfl
@[simp] theorem Cpu.setFlag_orw (f : Flag) (on : Bool) (c : Cpu) : (c.setFlag f on).orw = c.orw := rfl
@[simp] theorem Cpu.setFlag_osync (f : Flag) (on : Bool) (c : Cpu) : (c.setFlag f on).osync = c.osync := rfl
@[simp] theorem Cpu.setFlag_dbuf (f : Flag) (on : Bool) (c : Cpu) : (c.setFlag f on).dbuf = c.dbuf := rfl
@[simp] theorem Cpu.setFlag_tmp (f : Flag) (on : Bool) (c : Cpu) : (c.setFlag f on).tmp = c.tmp := rfl
@[simp] theorem Cpu.setFlag_tl (f : Flag) (on : Bool) (c : Cpu) : (c.setFlag f on).tl = c.tl := rfl
@[simp] theorem Cpu.setFlag_ir (f : Flag) (on : Bool) (c : Cpu) : (c.setFlag f on).ir = c.ir := rfl
@[simp] theorem Cpu.setFlag_cyc (f : Flag) (on : Bool) (c : Cpu) : (c.setFlag f on).cyc = c.cyc := rfl
@[simp] theorem Cpu.setFlag_nmiPend (f : Flag) (on : Bool) (c : Cpu) : (c.setFlag f on).nmiPend = c.nmiPend := rfl
@[simp] theorem Cpu.setFlag_irqPend (f : Flag) (on : Bool) (c : Cpu) : (c.setFlag f on).irqPend = c.irqPend := rfl
@[simp] theorem Cpu.setFlag_resPend (f : Flag) (on : Bool) (c : Cpu) : (c.setFlag f on).resPend = c.resPend := rfl
@[simp] theorem Cpu.setFlag_lastClk (f : Flag) (on : Bool) (c : Cpu) : (c.setFlag f on).lastClk = c.lastClk := rfl
@[simp] theorem Cpu.setFlag_lastNmi (f : Flag) (on : Bool) (c : Cpu) : (c.setFlag f on).lastNmi = c.lastNmi := rfl

/-! #### `Cpu.setNZ` -/

@[simp] theorem Cpu.setNZ_a (v : Byte) (c : Cpu) : (c.setNZ v).a = c.a := rfl
@[simp] theorem Cpu.setNZ_x (v : Byte) (c : Cpu) : (c.setNZ v).x = c.x := rfl
@[simp] theorem Cpu.setNZ_y (v : Byte) (c : Cpu) : (c.setNZ v).y = c.y := rfl
@[simp] theorem Cpu.setNZ_sp (v : Byte) (c : Cpu) : (c.setNZ v).sp = c.sp := rfl
@[simp] theorem Cpu.setNZ_p (v : Byte) (c : Cpu) : (c.setNZ v).p = (withNZ v c.p) := rfl
@[simp] theorem Cpu.setNZ_pc (v : Byte) (c : Cpu) : (c.setNZ v).pc = c.pc := rfl
@[simp] theorem Cpu.setNZ_paddr (v : Byte) (c : Cpu) : (c.setNZ v).paddr = c.paddr := rfl
@[simp] theorem Cpu.setNZ_pdata (v : Byte) (c : Cpu) : (c.setNZ v).pdata = c.pdata := rfl
@[simp] theorem Cpu.setNZ_prw (v : Byte) (c : Cpu) : (c.setNZ v).prw = c.prw := rfl
@[simp] theorem Cpu.setNZ_psync (v : Byte) (c : Cpu) : (c.setNZ v).psync = c.psync := rfl
@[simp] theorem Cpu.setNZ_oaddr (v : Byte) (c : Cpu) : (c.setNZ v).oaddr = c.oaddr := rfl
@[simp] theorem Cpu.setNZ_odata (v : Byte) (c : Cpu) : (c.setNZ v).odata = c.odata := rfl
@[simp] theorem Cpu.setNZ_orw (v : Byte) (c : Cpu) : (c.setNZ v).orw = c.orw := rfl
@[simp] theorem Cpu.setNZ_osync (v : Byte) (c : Cpu) : (c.setNZ v).osync = c.osync := rfl
@[simp] theorem Cpu.setNZ_dbuf (v : Byte) (c : Cpu) : (c.setNZ v).dbuf = c.dbuf := rfl
@[simp] theorem Cpu.setNZ_tmp (v : Byte) (c : Cpu) : (c.setNZ v).tmp = c.tmp := rfl
@[simp] theorem Cpu.setNZ_tl (v : Byte) (c : Cpu) : (c.setNZ v).tl = c.tl := rfl
@[simp] theorem Cpu.setNZ_ir (v : Byte) (c : Cpu) : (c.setNZ v).ir = c.ir := rfl
@[simp] theorem Cpu.setNZ_cyc (v : Byte) (c : Cpu) : (c.setNZ v).cyc = c.cyc := rfl
@[simp] theorem Cpu.setNZ_nmiPend (v : Byte) (c : Cpu) : (c.setNZ v).nmiPend = c.nmiPend := rfl
@[simp] theorem Cpu.setNZ_irqPend (v : Byte) (c : Cpu) : (c.setNZ v).irqPend = c.irqPend := rfl
@[simp] theorem Cpu.setNZ_resPend (v : Byte) (c : Cpu) : (c.setNZ v).resPend = c.resPend := rfl
@[simp] theorem Cpu.setNZ_lastClk (v : Byte) (c : Cpu) : (c.setNZ v).lastClk = c.lastClk := rfl
@[simp] theorem Cpu.setNZ_lastNmi (v : Byte) (c : Cpu) : (c.setNZ v).lastNmi = c.lastNmi := rfl

/-! #### `Cpu.setAdd` -/

@[simp] theorem Cpu.setAdd_a (t : AddResult) (c : Cpu) : (c.setAdd t).a = c.a := rfl
@[simp] theorem Cpu.setAdd_x (t : AddResult) (c : Cpu) : (c.setAdd t).x = c.x := rfl
@[simp] theorem Cpu.setAdd_y (t : AddResult) (c : Cpu) : (c.setAdd t).y = c.y := rfl
@[simp] theorem Cpu.setAdd_sp (t : AddResult) (c : Cpu) : (c.setAdd t).sp = c.sp := rfl
@[simp] theorem Cpu.setAdd_p (t : AddResult) (c : Cpu) : (c.setAdd t).p = (withFlags [(.c, t.carry), (.v, t.overflow), (.z, decide (t.r = 0#8)), (.n, t.r.getLsbD 7)] c.p) := rfl
@[simp] theorem Cpu.setAdd_pc (t : AddResult) (c : Cpu) : (c.setAdd t).pc = c.pc := rfl
@[simp] theorem Cpu.setAdd_paddr (t : AddResult) (c : Cpu) : (c.setAdd t).paddr = c.paddr := rfl
@[simp] theorem Cpu.setAdd_pdata (t : AddResult) (c : Cpu) : (c.setAdd t).pdata = c.pdata := rfl
@[simp] theorem Cpu.setAdd_prw (t : AddResult) (c : Cpu) : (c.setAdd t).prw = c.prw := rfl
@[simp] theorem Cpu.setAdd_psync (t : AddResult) (c : Cpu) : (c.setAdd t).psync = c.psync := rfl
@[simp] theorem Cpu.setAdd_oaddr (t : AddResult) (c : Cpu) : (c.setAdd t).oaddr = c.oaddr := rfl
@[simp] theorem Cpu.setAdd_odata (t : AddResult) (c : Cpu) : (c.setAdd t).odata = c.odata := rfl
@[simp] theorem Cpu.setAdd_orw (t : AddResult) (c : Cpu) : (c.setAdd t).orw = c.orw := rfl
@[simp] theorem Cpu.setAdd_osync (t : AddResult) (c : Cpu) : (c.setAdd t).osync = c.osync := rfl
@[simp] theorem Cpu.setAdd_dbuf (t : AddResult) (c : Cpu) : (c.setAdd t).dbuf = c.dbuf := rfl
@[simp] theorem Cpu.setAdd_tmp (t : AddResult) (c : Cpu) : (c.setAdd t).tmp = c.tmp := rfl
@[simp] theorem Cpu.setAdd_tl (t : AddResult) (c : Cpu) : (c.setAdd t).tl = c.tl := rfl
@[simp] theorem Cpu.setAdd_ir (t : AddResult) (c : Cpu) : (c.setAdd t).ir = c.ir := rfl
@[simp] theorem Cpu.setAdd_cyc (t : AddResult) (c : Cpu) : (c.setAdd t).cyc = c.cyc := rfl
@[simp] theorem Cpu.setAdd_nmiPend (t : AddResult) (c : Cpu) : (c.setAdd t).nmiPend = c.nmiPend := rfl
@[simp] theorem Cpu.setAdd_irqPend (t : AddResult) (c : Cpu) : (c.setAdd t).irqPend = c.irqPend := rfl
@[simp] theorem Cpu.setAdd_resPend (t : AddResult) (c : Cpu) : (c.setAdd t).resPend = c.resPend := rfl
@[simp] theorem Cpu.setAdd_lastClk (t : AddResult) (c : Cpu) : (c.setAdd t).lastClk = c.lastClk := rfl
@[simp] theorem Cpu.setAdd_lastNmi (t : AddResult) (c : Cpu) : (c.setAdd t).lastNmi = c.lastNmi := rfl

/-! #### `Cpu.setCompare` -/

@[simp] theorem Cpu.setCompare_a (r m : Byte) (c : Cpu) : (c.setCompare r m).a = c.a := rfl
@[simp] theorem Cpu.setCompare_x (r m : Byte) (c : Cpu) : (c.setCompare r m).x = c.x := rfl
@[simp] theorem Cpu.setCompare_y (r m : Byte) (c : Cpu) : (c.setCompare r m).y = c.y := rfl
@[simp] theorem Cpu.setCompare_sp (r m : Byte) (c : Cpu) : (c.setCompare r m).sp = c.sp := rfl
@[simp] theorem Cpu.setCompare_p (r m : Byte) (c : Cpu) : (c.setCompare r m).p = (withFlags [(.c, decide (m ≤ r)), (.z, decide (r - m = 0#8)), (.n, (r - m).getLsbD 7)] c.p) := rfl
@[simp] theorem Cpu.setCompare_pc (r m : Byte) (c : Cpu) : (c.setCompare r m).pc = c.pc := rfl
@[simp] theorem Cpu.setCompare_paddr (r m : Byte) (c : Cpu) : (c.setCompare r m).paddr = c.paddr := rfl
@[simp] theorem Cpu.setCompare_pdata (r m : Byte) (c : Cpu) : (c.setCompare r m).pdata = c.pdata := rfl
@[simp] theorem Cpu.setCompare_prw (r m : Byte) (c : Cpu) : (c.setCompare r m).prw = c.prw := rfl
@[simp] theorem Cpu.setCompare_psync (r m : Byte) (c : Cpu) : (c.setCompare r m).psync = c.psync := rfl
@[simp] theorem Cpu.setCompare_oaddr (r m : Byte) (c : Cpu) : (c.setCompare r m).oaddr = c.oaddr := rfl
@[simp] theorem Cpu.setCompare_odata (r m : Byte) (c : Cpu) : (c.setCompare r m).odata = c.odata := rfl
@[simp] theorem Cpu.setCompare_orw (r m : Byte) (c : Cpu) : (c.setCompare r m).orw = c.orw := rfl
@[simp] theorem Cpu.setCompare_osync (r m : Byte) (c : Cpu) : (c.setCompare r m).osync = c.osync := rfl
@[simp] theorem Cpu.setCompare_dbuf (r m : Byte) (c : Cpu) : (c.setCompare r m).dbuf = c.dbuf := rfl
@[simp] theorem Cpu.setCompare_tmp (r m : Byte) (c : Cpu) : (c.setCompare r m).tmp = c.tmp := rfl
@[simp] theorem Cpu.setCompare_tl (r m : Byte) (c : Cpu) : (c.setCompare r m).tl = c.tl := rfl
@[simp] theorem Cpu.setCompare_ir (r m : Byte) (c : Cpu) : (c.setCompare r m).ir = c.ir := rfl
@[simp] theorem Cpu.setCompare_cyc (r m : Byte) (c : Cpu) : (c.setCompare r m).cyc = c.cyc := rfl
@[simp] theorem Cpu.setCompare_nmiPend (r m : Byte) (c : Cpu) : (c.setCompare r m).nmiPend = c.nmiPend := rfl
@[simp] theorem Cpu.setCompare_irqPend (r m : Byte) (c : Cpu) : (c.setCompare r m).irqPend = c.irqPend := rfl
@[simp] theorem Cpu.setCompare_resPend (r m : Byte) (c : Cpu) : (c.setCompare r m).resPend = c.resPend := rfl
@[simp] theorem Cpu.setCompare_lastClk (r m : Byte) (c : Cpu) : (c.setCompare r m).lastClk = c.lastClk := rfl
@[simp] theorem Cpu.setCompare_lastNmi (r m : Byte) (c : Cpu) : (c.setCompare r m).lastNmi = c.lastNmi := rfl

/-! #### `Cpu.setBit` -/

@[simp] theorem Cpu.setBit_a (r m : Byte) (c : Cpu) : (c.setBit r m).a = c.a := rfl
@[simp] theorem Cpu.setBit_x (r m : Byte) (c : Cpu) : (c.setBit r m).x = c.x := rfl
@[simp] theorem Cpu.setBit_y (r m : Byte) (c : Cpu) : (c.setBit r m).y = c.y := rfl
@[simp] theorem Cpu.setBit_sp (r m : Byte) (c : Cpu) : (c.setBit r m).sp = c.sp := rfl
@[simp] theorem Cpu.setBit_p (r m : Byte) (c : Cpu) : (c.setBit r m).p = (withFlags [(.z, decide (r &&& m = 0#8)), (.n, m.getLsbD 7), (.v, m.getLsbD 6)] c.p) := rfl
@[simp] theorem Cpu.setBit_pc (r m : Byte) (c : Cpu) : (c.setBit r m).pc = c.pc := rfl
@[simp] theorem Cpu.setBit_paddr (r m : Byte) (c : Cpu) : (c.setBit r m).paddr = c.paddr := rfl
@[simp] theorem Cpu.setBit_pdata (r m : Byte) (c : Cpu) : (c.setBit r m).pdata = c.pdata := rfl
@[simp] theorem Cpu.setBit_prw (r m : Byte) (c : Cpu) : (c.setBit r m).prw = c.prw := rfl
@[simp] theorem Cpu.setBit_psync (r m : Byte) (c : Cpu) : (c.setBit r m).psync = c.psync := rfl
@[simp] theorem Cpu.setBit_oaddr (r m : Byte) (c : Cpu) : (c.setBit r m).oaddr = c.oaddr := rfl
@[simp] theorem Cpu.setBit_odata (r m : Byte) (c : Cpu) : (c.setBit r m).odata = c.odata := rfl
@[simp] theorem Cpu.setBit_orw (r m : Byte) (c : Cpu) : (c.setBit r m).orw = c.orw := rfl
@[simp] theorem Cpu.setBit_osync (r m : Byte) (c : Cpu) : (c.setBit r m).osync = c.osync := rfl
@[simp] theorem Cpu.setBit_dbuf (r m : Byte) (c : Cpu) : (c.setBit r m).dbuf = c.dbuf := rfl
@[simp] theorem Cpu.setBit_tmp (r m : Byte) (c : Cpu) : (c.setBit r m).tmp = c.tmp := rfl
@[simp] theorem Cpu.setBit_tl (r m : Byte) (c : Cpu) : (c.setBit r m).tl = c.tl := rfl
@[simp] theorem Cpu.setBit_ir (r m : Byte) (c : Cpu) : (c.setBit r m).ir = c.ir := rfl
@[simp] theorem Cpu.setBit_cyc (r m : Byte) (c : Cpu) : (c.setBit r m).cyc = c.cyc := rfl
@[simp] theorem Cpu.setBit_nmiPend (r m : Byte) (c : Cpu) : (c.setBit r m).nmiPend = c.nmiPend := rfl
@[simp] theorem Cpu.setBit_irqPend (r m : Byte) (c : Cpu) : (c.setBit r m).irqPend = c.irqPend := rfl
@[simp] theorem Cpu.setBit_resPend (r m : Byte) (c : Cpu) : (c.setBit r m).resPend = c.resPend := rfl
@[simp] theorem Cpu.setBit_lastClk (r m : Byte) (c : Cpu) : (c.setBit r m).lastClk = c.lastClk := rfl
@[simp] theorem Cpu.setBit_lastNmi (r m : Byte) (c : Cpu) : (c.setBit r m).lastNmi = c.lastNmi := rfl

/-! #### `Cpu.setShift` -/

@[simp] theorem Cpu.setShift_a (t : ShiftResult) (c : Cpu) : (c.setShift t).a = c.a := rfl
@[simp] theorem Cpu.setShift_x (t : ShiftResult) (c : Cpu) : (c.setShift t).x = c.x := rfl
@[simp] theorem Cpu.setShift_y (t : ShiftResult) (c : Cpu) : (c.setShift t).y = c.y := rfl
@[simp] theorem Cpu.setShift_sp (t : ShiftResult) (c : Cpu) : (c.setShift t).sp = c.sp := rfl
@[simp] theorem Cpu.setShift_p (t : ShiftResult) (c : Cpu) : (c.setShift t).p = (withFlags [(.c, t.carry), (.z, decide (t.r = 0#8)), (.n, t.r.getLsbD 7)] c.p) := rfl
@[simp] theorem Cpu.setShift_pc (t : ShiftResult) (c : Cpu) : (c.setShift t).pc = c.pc := rfl
@[simp] theorem Cpu.setShift_paddr (t : ShiftResult) (c : Cpu) : (c.setShift t).paddr = c.paddr := rfl
@[simp] theorem Cpu.setShift_pdata (t : ShiftResult) (c : Cpu) : (c.setShift t).pdata = c.pdata := rfl
@[simp] theorem Cpu.setShift_prw (t : ShiftResult) (c : Cpu) : (c.setShift t).prw = c.prw := rfl
@[simp] theorem Cpu.setShift_psync (t : ShiftResult) (c : Cpu) : (c.setShift t).psync = c.psync := rfl
@[simp] theorem Cpu.setShift_oaddr (t : ShiftResult) (c : Cpu) : (c.setShift t).oaddr = c.oaddr := rfl
@[simp] theorem Cpu.setShift_odata (t : ShiftResult) (c : Cpu) : (c.setShift t).odata = c.odata := rfl
@[simp] theorem Cpu.setShift_orw (t : ShiftResult) (c : Cpu) : (c.setShift t).orw = c.orw := rfl
@[simp] theorem Cpu.setShift_osync (t : ShiftResult) (c : Cpu) : (c.setShift t).osync = c.osync := rfl
@[simp] theorem Cpu.setShift_dbuf (t : ShiftResult) (c : Cpu) : (c.setShift t).dbuf = c.dbuf := rfl
@[simp] theorem Cpu.setShift_tmp (t : ShiftResult) (c : Cpu) : (c.setShift t).tmp = c.tmp := rfl
@[simp] theorem Cpu.setShift_tl (t : ShiftResult) (c : Cpu) : (c.setShift t).tl = c.tl := rfl
@[simp] theorem Cpu.setShift_ir (t : ShiftResult) (c : Cpu) : (c.setShift t).ir = c.ir := rfl
@[simp] theorem Cpu.setShift_cyc (t : ShiftResult) (c : Cpu) : (c.setShift t).cyc = c.cyc := rfl
@[simp] theorem Cpu.setShift_nmiPend (t : ShiftResult) (c : Cpu) : (c.setShift t).nmiPend = c.nmiPend := rfl
@[simp] theorem Cpu.setShift_irqPend (t : ShiftResult) (c : Cpu) : (c.setShift t).irqPend = c.irqPend := rfl
@[simp] theorem Cpu.setShift_resPend (t : ShiftResult) (c : Cpu) : (c.setShift t).resPend = c.resPend := rfl
@[simp] theorem Cpu.setShift_lastClk (t : ShiftResult) (c : Cpu) : (c.setShift t).lastClk = c.lastClk := rfl
@[simp] theorem Cpu.setShift_lastNmi (t : ShiftResult) (c : Cpu) : (c.setShift t).lastNmi = c.lastNmi := rfl

/-! #### `Cpu.latch` -/

@[simp] theorem Cpu.latch_a (clk nmi irq res : Bool) (c : Cpu) : (c.latch clk nmi irq res).a = c.a := rfl
@[simp] theorem Cpu.latch_x (clk nmi irq res : Bool) (c : Cpu) : (c.latch clk nmi irq res).x = c.x := rfl
@[simp] theorem Cpu.latch_y (clk nmi irq res : Bool) (c : Cpu) : (c.latch clk nmi irq res).y = c.y := rfl
@[simp] theorem Cpu.latch_sp (clk nmi irq res : Bool) (c : Cpu) : (c.latch clk nmi irq res).sp = c.sp := rfl
@[simp] theorem Cpu.latch_p (clk nmi irq res : Bool) (c : Cpu) : (c.latch clk nmi irq res).p = c.p := rfl
@[simp] theorem Cpu.latch_pc (clk nmi irq res : Bool) (c : Cpu) : (c.latch clk nmi irq res).pc = c.pc := rfl
@[simp] theorem Cpu.latch_paddr (clk nmi irq res : Bool) (c : Cpu) : (c.latch clk nmi irq res).paddr = c.paddr := rfl
@[simp] theorem Cpu.latch_pdata (clk nmi irq res : Bool) (c : Cpu) : (c.latch clk nmi irq res).pdata = c.pdata := rfl
@[simp] theorem Cpu.latch_prw (clk nmi irq res : Bool) (c : Cpu) : (c.latch clk nmi irq res).prw = c.prw := rfl
@[simp] theorem Cpu.latch_psync (clk nmi irq res : Bool) (c : Cpu) : (c.latch clk nmi irq res).psync = c.psync := rfl
@[simp] theorem Cpu.latch_oaddr (clk nmi irq res : Bool) (c : Cpu) : (c.latch clk nmi irq res).oaddr = c.oaddr := rfl
@[simp] theorem Cpu.latch_odata (clk nmi irq res : Bool) (c : Cpu) : (c.latch clk nmi irq res).odata = c.odata := rfl
@[simp] theorem Cpu.latch_orw (clk nmi irq res : Bool) (c : Cpu) : (c.latch clk nmi irq res).orw = c.orw := rfl
@[simp] theorem Cpu.latch_osync (clk nmi irq res : Bool) (c : Cpu) : (c.latch clk nmi irq res).osync = c.osync := rfl
@[simp] theorem Cpu.latch_dbuf (clk nmi irq res : Bool) (c : Cpu) : (c.latch clk nmi irq res).dbuf = c.dbuf := rfl
@[simp] theorem Cpu.latch_tmp (clk nmi irq res : Bool) (c : Cpu) : (c.latch clk nmi irq res).tmp = c.tmp := rfl
@[simp] theorem Cpu.latch_tl (clk nmi irq res : Bool) (c : Cpu) : (c.latch clk nmi irq res).tl = c.tl := rfl
@[simp] theorem Cpu.latch_ir (clk nmi irq res : Bool) (c : Cpu) : (c.latch clk nmi irq res).ir = c.ir := rfl
@[simp] theorem Cpu.latch_cyc (clk nmi irq res : Bool) (c : Cpu) : (c.latch clk nmi irq res).cyc = c.cyc := rfl
@[simp] theorem Cpu.latch_nmiPend (clk nmi irq res : Bool) (c : Cpu) : (c.latch clk nmi irq res).nmiPend = (c.nmiPend || (c.lastNmi && !nmi)) := rfl
@[simp] theorem Cpu.latch_irqPend (clk nmi irq res : Bool) (c : Cpu) : (c.latch clk nmi irq res).irqPend = (!irq && !c.flag .i) := rfl
@[simp] theorem Cpu.latch_resPend (clk nmi irq res : Bool) (c : Cpu) : (c.latch clk nmi irq res).resPend = (c.resPend || !res) := rfl
@[simp] theorem Cpu.latch_lastClk (clk nmi irq res : Bool) (c : Cpu) : (c.latch clk nmi irq res).lastClk = clk := rfl
@[simp] theorem Cpu.latch_lastNmi (clk nmi irq res : Bool) (c : Cpu) : (c.latch clk nmi irq res).lastNmi = nmi := rfl

/-! #### `Cpu.dispatch` -/

@[simp] theorem Cpu.dispatch_a (c : Cpu) : (c.dispatch).a = c.a := rfl
@[simp] theorem Cpu.dispatch_x (c : Cpu) : (c.dispatch).x = c.x := rfl
@[simp] theorem Cpu.dispatch_y (c : Cpu) : (c.dispatch).y = c.y := rfl
@[simp] theorem Cpu.dispatch_sp (c : Cpu) : (c.dispatch).sp = c.sp := rfl
@[simp] theorem Cpu.dispatch_p (c : Cpu) : (c.dispatch).p = c.p := rfl
@[simp] theorem Cpu.dispatch_pc (c : Cpu) : (c.dispatch).pc = c.pc := rfl
@[simp] theorem Cpu.dispatch_paddr (c : Cpu) : (c.dispatch).paddr = c.paddr := rfl
@[simp] theorem Cpu.dispatch_pdata (c : Cpu) : (c.dispatch).pdata = c.pdata := rfl
@[simp] theorem Cpu.dispatch_prw (c : Cpu) : (c.dispatch).prw = c.prw := rfl
@[simp] theorem Cpu.dispatch_psync (c : Cpu) : (c.dispatch).psync = c.psync := rfl
@[simp] theorem Cpu.dispatch_oaddr (c : Cpu) : (c.dispatch).oaddr = c.oaddr := rfl
@[simp] theorem Cpu.dispatch_odata (c : Cpu) : (c.dispatch).odata = c.odata := rfl
@[simp] theorem Cpu.dispatch_orw (c : Cpu) : (c.dispatch).orw = c.orw := rfl
@[simp] theorem Cpu.dispatch_osync (c : Cpu) : (c.dispatch).osync = c.osync := rfl
@[simp] theorem Cpu.dispatch_dbuf (c : Cpu) : (c.dispatch).dbuf = c.dbuf := rfl
@[simp] theorem Cpu.dispatch_tmp (c : Cpu) : (c.dispatch).tmp = c.tmp := rfl
@[simp] theorem Cpu.dispatch_tl (c : Cpu) : (c.dispatch).tl = c.tl := rfl
@[simp] theorem Cpu.dispatch_ir (c : Cpu) : (c.dispatch).ir = c.select := rfl
@[simp] theorem Cpu.dispatch_cyc (c : Cpu) : (c.dispatch).cyc = c.cyc := rfl
@[simp] theorem Cpu.dispatch_nmiPend (c : Cpu) : (c.dispatch).nmiPend = c.nmiPend := rfl
@[simp] theorem Cpu.dispatch_irqPend (c : Cpu) : (c.dispatch).irqPend = c.irqPend := rfl
@[simp] theorem Cpu.dispatch_resPend (c : Cpu) : (c.dispatch).resPend = c.resPend := rfl
@[simp] theorem Cpu.dispatch_lastClk (c : Cpu) : (c.dispatch).lastClk = c.lastClk := rfl
@[simp] theorem Cpu.dispatch_lastNmi (c : Cpu) : (c.dispatch).lastNmi = c.lastNmi := rfl

/-! #### `State.withCpu` and `State.poke` -/

@[simp] theorem State.withCpu_cpu (c : Cpu) (s : State) : (s.withCpu c).cpu = c := rfl
@[simp] theorem State.withCpu_cfg (c : Cpu) (s : State) : (s.withCpu c).cfg = s.cfg := rfl
@[simp] theorem State.withCpu_buses (c : Cpu) (s : State) : (s.withCpu c).buses = s.buses := rfl
@[simp] theorem State.withCpu_mems (c : Cpu) (s : State) : (s.withCpu c).mems = s.mems := rfl
@[simp] theorem State.withCpu_inputs (c : Cpu) (s : State) : (s.withCpu c).inputs = s.inputs := rfl
@[simp] theorem State.withCpu_peek (c : Cpu) (s : State) (w : Word) : (s.withCpu c).peek w = s.peek w := rfl
@[simp] theorem State.withCpu_withCpu (c c' : Cpu) (s : State) : (s.withCpu c).withCpu c' = s.withCpu c' := rfl
@[simp] theorem State.withCpu_poke_mems (c : Cpu) (s : State) (w : Word) (v : Byte) :
    ((s.withCpu c).poke w v).mems = (s.poke w v).mems := rfl
@[simp] theorem State.withCpu_poke_peek (c : Cpu) (s : State) (w w' : Word) (v : Byte) :
    ((s.withCpu c).poke w v).peek w' = (s.poke w v).peek w' := rfl
@[simp] theorem State.poke_cpu (s : State) (w : Word) (v : Byte) : (s.poke w v).cpu = s.cpu := rfl
@[simp] theorem State.poke_cfg (s : State) (w : Word) (v : Byte) : (s.poke w v).cfg = s.cfg := rfl
@[simp] theorem State.poke_buses (s : State) (w : Word) (v : Byte) : (s.poke w v).buses = s.buses := rfl
@[simp] theorem State.poke_inputs (s : State) (w : Word) (v : Byte) : (s.poke w v).inputs = s.inputs := rfl

/-! #### `State.regs` -/

@[simp] theorem State.regs_a (s : State) : s.regs.a = s.cpu.a := rfl
@[simp] theorem State.regs_x (s : State) : s.regs.x = s.cpu.x := rfl
@[simp] theorem State.regs_y (s : State) : s.regs.y = s.cpu.y := rfl
@[simp] theorem State.regs_sp (s : State) : s.regs.sp = s.cpu.sp := rfl
@[simp] theorem State.regs_p (s : State) : s.regs.p = s.cpu.p := rfl
@[simp] theorem State.regs_pc (s : State) : s.regs.pc = s.cpu.pc := rfl

end Sys2Proof.Machine
end

