-- ==== Sys2Proof/Laws/Cycle.lean ====
section
/-! SUPPORT. What one clock cycle can do (40_sequencer.md R160): the fields of `State.clockCycle` and `State.operandCycle`, the
kinds of the buses, and memory as the CPU reads it before and after. -/

namespace Sys2Proof.Machine

/-! ### Bus kinds never change (R65) -/

/-- No bus changed its kind. -/
def Buses.SameKinds (bs bs' : Buses) : Prop :=
  ∀ id, (bs'.get id).kind = (bs.get id).kind

theorem Buses.SameKinds.refl (bs : Buses) : bs.SameKinds bs := fun _ => rfl

theorem Buses.SameKinds.trans {b1 b2 b3 : Buses} (h : b1.SameKinds b2) (h' : b2.SameKinds b3) : b1.SameKinds b3 :=
  fun id => (h' id).trans (h id)

@[simp] theorem Bus.write_kind (v : Nat) (b : Bus) : (b.write v).kind = b.kind := by
  unfold Bus.write; split <;> rfl

@[simp] theorem Bus.reset_kind (b : Bus) : b.reset.kind = b.kind := by
  unfold Bus.reset; split <;> rfl

@[simp] theorem Bus.advance_kind (b : Bus) : b.advance.kind = b.kind := by
  unfold Bus.advance; split
  · split <;> rfl
  · rfl

@[simp] theorem Bus.write_width (v : Nat) (b : Bus) : (b.write v).width = b.width := by
  unfold Bus.write; split <;> rfl

@[simp] theorem Bus.reset_width (b : Bus) : b.reset.width = b.width := by
  unfold Bus.reset; split <;> rfl

@[simp] theorem Bus.advance_width (b : Bus) : b.advance.width = b.width := by
  unfold Bus.advance; split
  · split <;> rfl
  · rfl

theorem Buses.sameKinds_map {f : Bus → Bus} (hf : ∀ b, (f b).kind = b.kind) (bs : Buses) : bs.SameKinds (bs.map f) := by
  intro id
  cases id with
  | aux n =>
    simp only [Buses.get, Buses.map, List.getD_eq_getElem?_getD, List.getElem?_map]
    cases bs.aux[n]? <;> simp [hf]
  | _ => exact hf _

theorem Buses.sameKinds_modify {f : Bus → Bus} (hf : ∀ b, (f b).kind = b.kind) (bs : Buses) (id : BusId) :
    bs.SameKinds (bs.modify id f) := by
  intro id'
  cases id with
  | aux n =>
    cases id' with
    | aux k =>
      simp only [Buses.get, Buses.modify, List.getD_eq_getElem?_getD, List.getElem?_modify]
      cases bs.aux[k]? with
      | none => rfl
      | some b => by_cases hn : n = k <;> simp [hn, hf]
    | _ => rfl
  | _ => cases id' <;> first | rfl | exact hf _

theorem Buses.sameKinds_drive (writes : List (BusId × Nat)) (bs : Buses) : bs.SameKinds (bs.drive writes) := by
  unfold Buses.drive
  induction writes generalizing bs with
  | nil => exact Buses.SameKinds.refl bs
  | cons w ws ih => exact (Buses.sameKinds_modify (Bus.write_kind w.2) bs w.1).trans (ih _)

theorem State.startTick_sameKinds (s : State) : s.buses.SameKinds s.startTick.buses := by
  have h1 : s.buses.SameKinds s.buses.reset := Buses.sameKinds_map Bus.reset_kind s.buses
  have h2 : ∀ hold, s.buses.reset.SameKinds (s.buses.reset.advance hold) := by
    intro hold
    cases hold
    · exact Buses.sameKinds_map Bus.advance_kind _
    · exact Buses.SameKinds.refl _
  exact (h1.trans (h2 _)).trans (Buses.sameKinds_drive _ _)

/-! ### Ticks of the lines -/

/-- What ticks of the lines leave as it was: everything but the latches, the trackers, the buses and the inputs. -/
structure State.LineKept (s t : State) : Prop where
  cpu : t.cpu = { s.cpu with
    nmiPend := t.cpu.nmiPend, irqPend := t.cpu.irqPend, resPend := t.cpu.resPend
    lastClk := t.cpu.lastClk, lastNmi := t.cpu.lastNmi }
  cfg : t.cfg = s.cfg
  mems : t.mems = s.mems
  kinds : s.buses.SameKinds t.buses

theorem State.LineKept.refl (s : State) : s.LineKept s := ⟨rfl, rfl, rfl, Buses.SameKinds.refl _⟩

theorem State.LineKept.trans {s t u : State} (h : s.LineKept t) (h' : t.LineKept u) : s.LineKept u where
  cpu := by rw [h'.cpu, h.cpu]
  cfg := h'.cfg.trans h.cfg
  mems := h'.mems.trans h.mems
  kinds := h.kinds.trans h'.kinds

theorem State.lineTick_kept (s : State) : s.LineKept s.startTick.latchLines :=
  ⟨rfl, rfl, rfl, s.startTick_sameKinds⟩

theorem State.lineTicks_kept (n : Nat) (s : State) : s.LineKept (State.lineTicks n s) := by
  induction n generalizing s with
  | zero => exact State.LineKept.refl s
  | succ n ih => exact s.lineTick_kept.trans (ih _)

theorem State.lineTicks_inputs (n : Nat) (s : State) : (State.lineTicks n s).inputs = s.inputs.drop n := by
  induction n generalizing s with
  | zero => rfl
  | succ n ih =>
    rw [State.lineTicks, ih]
    show s.inputs.tail.drop n = _
    simp

/-! ### Memory in a bus cycle -/

theorem MemDevice.cycle_congr {bs bs' : Buses} (h : bs.SameKinds bs') (addr : Word) (rd : Bool) (d : MemDevice)
    (l : DataLine) : d.cycle bs' addr rd l = d.cycle bs addr rd l := by
  have he : d.enabled bs' = d.enabled bs := by simp [MemDevice.enabled, h d.enBus]
  simp [MemDevice.cycle, he]

theorem memsCycle_congr {bs bs' : Buses} (h : bs.SameKinds bs') (addr : Word) (rd : Bool) (order : List DeviceId)
    (ms : List MemDevice) (l : DataLine) : memsCycle bs' addr rd order ms l = memsCycle bs addr rd order ms l := by
  induction order generalizing ms l with
  | nil => rfl
  | cons id order ih =>
    have hid : memCycle bs' addr rd id ms l = memCycle bs addr rd id ms l := by
      cases id with
      | cpu => rfl
      | mem k => simp only [memCycle, MemDevice.cycle_congr h]
    simp only [memsCycle, hid, ih]

theorem memCycle_read_mems (bs : Buses) (addr : Word) (id : DeviceId) (ms : List MemDevice) (l : DataLine) :
    (memCycle bs addr true id ms l).1 = ms := by
  cases id with
  | cpu => rfl
  | mem k =>
    simp only [memCycle]
    split
    · rfl
    · rename_i d hd
      have hc : (d.cycle bs addr true l).1 = d := by
        unfold MemDevice.cycle; split <;> simp
      simp only [hc]
      exact List.ext_getElem? fun i => by
        rw [List.getElem?_set]
        split
        · rename_i hk; subst hk; split
          · exact hd.symm
          · rename_i hlt; rw [List.getElem?_eq_none (Nat.le_of_not_lt hlt)]
        · rfl

/-- A read bus cycle changes no memory device (R82). -/
theorem memsCycle_read_mems (bs : Buses) (addr : Word) (order : List DeviceId) (ms : List MemDevice) (l : DataLine) :
    (memsCycle bs addr true order ms l).1 = ms := by
  induction order generalizing ms l with
  | nil => rfl
  | cons id order ih => rw [memsCycle, ih, memCycle_read_mems]

/-- A bus cycle changes a memory device in its cells alone. -/
theorem memsCycle_shape (bs : Buses) (addr : Word) (rd : Bool) (order : List DeviceId) (ms : List MemDevice) (l : DataLine) :
    (memsCycle bs addr rd order ms l).1.map (fun d => { d with cells := [] }) = ms.map fun d => { d with cells := [] } := by
  induction order generalizing ms l with
  | nil => rfl
  | cons id order ih =>
    rw [memsCycle, ih]
    cases id with
    | cpu => rfl
    | mem k =>
      simp only [memCycle]
      split
      · rfl
      · rename_i d hd
        have hc : ({ (d.cycle bs addr rd l).1 with cells := [] } : MemDevice) = { d with cells := [] } := by
          unfold MemDevice.cycle; split
          · split <;> rfl
          · rfl
        refine List.ext_getElem? fun i => ?_
        simp only [List.getElem?_map, List.getElem?_set]
        split
        · rename_i hk; subst hk
          rw [hd]
          split
          · simp [hc]
          · rename_i hlt; rw [List.getElem?_eq_none (Nat.le_of_not_lt hlt)] at hd; cases hd
        · rfl

theorem State.peek_congr {s t : State} (hk : s.buses.SameKinds t.buses) (hm : t.mems = s.mems)
    (hc : t.cfg.evalOrder = s.cfg.evalOrder) (w : Word) : t.peek w = s.peek w := by
  simp only [State.peek, hm, hc, memsCycle_congr hk]

theorem State.poke_mems_congr {s t : State} (hk : s.buses.SameKinds t.buses) (hm : t.mems = s.mems)
    (hc : t.cfg.evalOrder = s.cfg.evalOrder) (w : Word) (v : Byte) : (t.poke w v).mems = (s.poke w v).mems := by
  simp only [State.poke, hm, hc, memsCycle_congr hk]

/-! ### One clock cycle -/

theorem Buses.sameKinds_holdOutputs (p : Ports) (c : Cpu) (l : DataLine) (bs : Buses) :
    bs.SameKinds (bs.holdOutputs p c l) :=
  (((Buses.sameKinds_modify (f := Bus.held _) (fun _ => rfl) bs _).trans
    (Buses.sameKinds_modify (f := Bus.held _) (fun _ => rfl) _ _)).trans
    (Buses.sameKinds_modify (f := Bus.held _) (fun _ => rfl) _ _)).trans
    (Buses.sameKinds_modify (f := Bus.heldLine _) (fun _ => rfl) _ _)

theorem State.clockCycle_sameKinds (s : State) : s.buses.SameKinds s.clockCycle.buses :=
  (State.lineTicks_kept _ s).kinds.trans (Buses.sameKinds_holdOutputs _ _ _ _)

theorem State.clockCycle_cpu (s : State) :
    s.clockCycle.cpu = { s.cpu with
      nmiPend := s.clockCycle.cpu.nmiPend, irqPend := s.clockCycle.cpu.irqPend, resPend := s.clockCycle.cpu.resPend
      lastClk := s.clockCycle.cpu.lastClk, lastNmi := s.clockCycle.cpu.lastNmi
      oaddr := s.cpu.paddr, odata := s.cpu.pdata, orw := s.cpu.prw, osync := s.cpu.psync
      dbuf := s.clockCycle.cpu.dbuf } := by
  have h := (State.lineTicks_kept (2 * s.cfg.clkDiv) s).cpu
  simp only [State.clockCycle, Cpu.publish]
  rw [h]

@[simp] theorem State.clockCycle_a (s : State) : s.clockCycle.cpu.a = s.cpu.a := by rw [s.clockCycle_cpu]
@[simp] theorem State.clockCycle_x (s : State) : s.clockCycle.cpu.x = s.cpu.x := by rw [s.clockCycle_cpu]
@[simp] theorem State.clockCycle_y (s : State) : s.clockCycle.cpu.y = s.cpu.y := by rw [s.clockCycle_cpu]
@[simp] theorem State.clockCycle_sp (s : State) : s.clockCycle.cpu.sp = s.cpu.sp := by rw [s.clockCycle_cpu]
@[simp] theorem State.clockCycle_p (s : State) : s.clockCycle.cpu.p = s.cpu.p := by rw [s.clockCycle_cpu]
@[simp] theorem State.clockCycle_pc (s : State) : s.clockCycle.cpu.pc = s.cpu.pc := by rw [s.clockCycle_cpu]
@[simp] theorem State.clockCycle_paddr (s : State) : s.clockCycle.cpu.paddr = s.cpu.paddr := by rw [s.clockCycle_cpu]
@[simp] theorem State.clockCycle_pdata (s : State) : s.clockCycle.cpu.pdata = s.cpu.pdata := by rw [s.clockCycle_cpu]
@[simp] theorem State.clockCycle_prw (s : State) : s.clockCycle.cpu.prw = s.cpu.prw := by rw [s.clockCycle_cpu]
@[simp] theorem State.clockCycle_psync (s : State) : s.clockCycle.cpu.psync = s.cpu.psync := by rw [s.clockCycle_cpu]
@[simp] theorem State.clockCycle_oaddr (s : State) : s.clockCycle.cpu.oaddr = s.cpu.paddr := by rw [s.clockCycle_cpu]
@[simp] theorem State.clockCycle_odata (s : State) : s.clockCycle.cpu.odata = s.cpu.pdata := by rw [s.clockCycle_cpu]
@[simp] theorem State.clockCycle_orw (s : State) : s.clockCycle.cpu.orw = s.cpu.prw := by rw [s.clockCycle_cpu]
@[simp] theorem State.clockCycle_osync (s : State) : s.clockCycle.cpu.osync = s.cpu.psync := by rw [s.clockCycle_cpu]
@[simp] theorem State.clockCycle_tmp (s : State) : s.clockCycle.cpu.tmp = s.cpu.tmp := by rw [s.clockCycle_cpu]
@[simp] theorem State.clockCycle_tl (s : State) : s.clockCycle.cpu.tl = s.cpu.tl := by rw [s.clockCycle_cpu]
@[simp] theorem State.clockCycle_ir (s : State) : s.clockCycle.cpu.ir = s.cpu.ir := by rw [s.clockCycle_cpu]
@[simp] theorem State.clockCycle_cyc (s : State) : s.clockCycle.cpu.cyc = s.cpu.cyc := by rw [s.clockCycle_cpu]

@[simp] theorem State.clockCycle_cfg (s : State) : s.clockCycle.cfg = s.cfg :=
  (State.lineTicks_kept (2 * s.cfg.clkDiv) s).cfg

@[simp] theorem State.clockCycle_inputs (s : State) : s.clockCycle.inputs = s.inputs.drop (2 * s.cfg.clkDiv) :=
  State.lineTicks_inputs (2 * s.cfg.clkDiv) s

/-- The data bus's line in the transaction that the staging registers name. -/
theorem State.clockCycle_transaction (s : State) :
    (s.clockCycle.mems, s.clockCycle.cpu.dbuf) =
      ((memsCycle s.buses s.cpu.paddr s.cpu.prw s.cfg.evalOrder s.mems (.start s.cpu.prw s.cpu.pdata)).1,
       (memsCycle s.buses s.cpu.paddr s.cpu.prw s.cfg.evalOrder s.mems (.start s.cpu.prw s.cpu.pdata)).2.byte) := by
  have h := State.lineTicks_kept (2 * s.cfg.clkDiv) s
  have hp : (State.lineTicks (2 * s.cfg.clkDiv) s).cpu.paddr = s.cpu.paddr := by rw [h.cpu]
  have hd : (State.lineTicks (2 * s.cfg.clkDiv) s).cpu.pdata = s.cpu.pdata := by rw [h.cpu]
  have hr : (State.lineTicks (2 * s.cfg.clkDiv) s).cpu.prw = s.cpu.prw := by rw [h.cpu]
  simp only [State.clockCycle, Cpu.publish, hp, hd, hr, h.mems, h.cfg, memsCycle_congr h.kinds]

/-- A read cycle leaves every memory device as it was. -/
theorem State.clockCycle_mems_read (s : State) (h : s.cpu.prw = true) : s.clockCycle.mems = s.mems := by
  refine (congrArg Prod.fst s.clockCycle_transaction).trans ?_
  simp only [h]
  exact memsCycle_read_mems _ _ _ _ _

/-- A read cycle samples the byte at the staged address (R91). -/
theorem State.clockCycle_dbuf_read (s : State) (h : s.cpu.prw = true) : s.clockCycle.cpu.dbuf = s.peek s.cpu.paddr := by
  refine (congrArg Prod.snd s.clockCycle_transaction).trans ?_
  simp only [h]
  rfl

/-- A write cycle stores the staged byte at the staged address (R92). -/
theorem State.clockCycle_mems_write (s : State) (h : s.cpu.prw = false) :
    s.clockCycle.mems = (s.poke s.cpu.paddr s.cpu.pdata).mems := by
  refine (congrArg Prod.fst s.clockCycle_transaction).trans ?_
  simp only [h]
  rfl

/-- Memory as the CPU reads it after a read cycle. -/
theorem State.clockCycle_peek_read (s : State) (w : Word) (h : s.cpu.prw = true) : s.clockCycle.peek w = s.peek w :=
  State.peek_congr s.clockCycle_sameKinds (s.clockCycle_mems_read h) (congrArg _ s.clockCycle_cfg) w

/-- Memory as the CPU reads it after a write cycle. -/
theorem State.clockCycle_peek_write (s : State) (w : Word) (h : s.cpu.prw = false) :
    s.clockCycle.peek w = (s.poke s.cpu.paddr s.cpu.pdata).peek w :=
  State.peek_congr (s := s.poke s.cpu.paddr s.cpu.pdata) s.clockCycle_sameKinds (s.clockCycle_mems_write h)
    (congrArg _ s.clockCycle_cfg) w

theorem State.clockCycle_poke_mems (s : State) (w : Word) (v : Byte) (h : s.cpu.prw = true) :
    (s.clockCycle.poke w v).mems = (s.poke w v).mems :=
  State.poke_mems_congr s.clockCycle_sameKinds (s.clockCycle_mems_read h) (congrArg _ s.clockCycle_cfg) w v

/-- `s` and `t` hold the same memory as the CPU reads and writes it: the same devices, enabled alike, evaluated in the same
order. -/
structure State.SameMemory (s t : State) : Prop where
  kinds : s.buses.SameKinds t.buses
  mems : t.mems = s.mems
  cfg : t.cfg = s.cfg

theorem State.SameMemory.refl (s : State) : s.SameMemory s := ⟨Buses.SameKinds.refl _, rfl, rfl⟩

theorem State.SameMemory.trans {s t u : State} (h : s.SameMemory t) (h' : t.SameMemory u) : s.SameMemory u :=
  ⟨h.kinds.trans h'.kinds, h'.mems.trans h.mems, h'.cfg.trans h.cfg⟩

theorem State.SameMemory.peek {s t : State} (h : s.SameMemory t) (w : Word) : t.peek w = s.peek w :=
  State.peek_congr h.kinds h.mems (congrArg _ h.cfg) w

theorem State.SameMemory.peek16 {s t : State} (h : s.SameMemory t) (w : Word) : t.peek16 w = s.peek16 w := by
  unfold State.peek16; rw [h.peek, h.peek]

theorem State.SameMemory.poke {s t : State} (h : s.SameMemory t) (w : Word) (v : Byte) : (s.poke w v).SameMemory (t.poke w v) :=
  ⟨h.kinds, State.poke_mems_congr h.kinds h.mems (congrArg _ h.cfg) w v, h.cfg⟩

theorem State.sameMemory_withCpu (c : Cpu) (s : State) : s.SameMemory (s.withCpu c) := ⟨Buses.SameKinds.refl _, rfl, rfl⟩

theorem State.sameMemory_clockCycle_read (s : State) (h : s.cpu.prw = true) : s.SameMemory s.clockCycle :=
  ⟨s.clockCycle_sameKinds, s.clockCycle_mems_read h, s.clockCycle_cfg⟩

theorem State.sameMemory_clockCycle_write (s : State) (h : s.cpu.prw = false) :
    (s.poke s.cpu.paddr s.cpu.pdata).SameMemory s.clockCycle :=
  ⟨s.clockCycle_sameKinds, s.clockCycle_mems_write h, s.clockCycle_cfg⟩

end Sys2Proof.Machine
end

