-- ==== Sys2Proof/Laws/Ram.lean ====
section
/-! SUPPORT. Memory as the CPU sees it on the reference platform (20_memory.md R90, R91): a read after writes. -/

namespace Sys2Proof.Machine

theorem State.plainRam_mems {s : State} (h : s.plainRam = true) :
    ∃ d, s.mems = [d] ∧ s.cfg.evalOrder = [.cpu, .mem 0] ∧ d.aw = 16 ∧ d.dw = 8 ∧ d.rwBus.isSome = true ∧ d.enabled s.buses = true ∧
      Memory.wf d.cells = true := by
  unfold State.plainRam at h
  split at h
  · rename_i d hd
    simp only [Bool.and_eq_true, decide_eq_true_eq] at h
    exact ⟨d, hd, h.1.1.1.1.1, h.1.1.1.1.2, h.1.1.1.2, h.1.1.2, h.1.2, h.2⟩
  · simp at h

theorem MemDevice.index_plain {d : MemDevice} (h : d.aw = 16) (w : Word) : d.index w.toNat = w.toNat := by
  unfold MemDevice.index
  rw [h, Nat.and_two_pow_sub_one_eq_mod]
  exact Nat.mod_eq_of_lt w.isLt

theorem MemDevice.dataMasked_plain {d : MemDevice} (h : d.dw = 8) (v : Byte) : d.dataMasked v = v := by
  unfold MemDevice.dataMasked
  rw [h]
  exact BitVec.and_allOnes

theorem State.peek_plain {s : State} {d : MemDevice} (hm : s.mems = [d]) (ho : s.cfg.evalOrder = [.cpu, .mem 0]) (ha : d.aw = 16) (hd : d.dw = 8)
    (he : d.enabled s.buses = true) (w : Word) : s.peek w = Memory.read d.cells w.toNat := by
  simp [State.peek, hm, ho, memsCycle, memCycle, MemDevice.cycle, he, MemDevice.readAt, MemDevice.index_plain ha,
    MemDevice.dataMasked_plain hd]

theorem State.poke_plain {s : State} {d : MemDevice} (hm : s.mems = [d]) (ho : s.cfg.evalOrder = [.cpu, .mem 0]) (ha : d.aw = 16) (hd : d.dw = 8)
    (hr : d.rwBus.isSome = true) (he : d.enabled s.buses = true) (w : Word) (v : Byte) :
    (s.poke w v).mems = [{ d with cells := Memory.write d.cells w.toNat v }] := by
  simp [State.poke, hm, ho, memsCycle, memCycle, MemDevice.cycle, he, hr, MemDevice.writeAt, MemDevice.index_plain ha,
    MemDevice.dataMasked_plain hd, DataLine.start]

/-- Writing keeps a plain RAM plain. -/
theorem State.plainRam_poke {s : State} (h : s.plainRam = true) (w : Word) (v : Byte) : (s.poke w v).plainRam = true := by
  obtain ⟨d, hm, ho, ha, hd, hr, he, hw⟩ := State.plainRam_mems h
  have h2 := State.poke_plain hm ho ha hd hr he w v
  have hb : (s.poke w v).buses = s.buses := rfl
  have hc : (s.poke w v).cfg = s.cfg := rfl
  have he' : ∀ cells, MemDevice.enabled s.buses { d with cells := cells } = true := fun _ => he
  unfold State.plainRam
  rw [h2, hb, hc]
  simp only [Bool.and_eq_true, decide_eq_true_eq]
  exact ⟨⟨⟨⟨⟨ho, ha⟩, hd⟩, hr⟩, he' _⟩, Memory.wf_write _ _ hw⟩

/-- A read after a write on a plain RAM. -/
theorem State.peek_poke_plain {s : State} (h : s.plainRam = true) (w : Word) (v : Byte) (a : Word) :
    (s.poke w v).peek a = if a = w then v else s.peek a := by
  obtain ⟨d, hm, ho, ha, hd, hr, he, hw⟩ := State.plainRam_mems h
  have h2 := State.poke_plain hm ho ha hd hr he w v
  rw [State.peek_plain h2 ho ha hd he, State.peek_plain hm ho ha hd he, Memory.read_write _ _ _ hw]
  simp [BitVec.toNat_inj]

theorem State.pokes_append (l : List (Word × Byte)) (e : Word × Byte) (s : State) :
    s.pokes (l ++ [e]) = (s.pokes l).poke e.1 e.2 := by
  simp [State.pokes, List.foldl_append]

theorem State.plainRam_pokes {s : State} (h : s.plainRam = true) (l : List (Word × Byte)) : (s.pokes l).plainRam = true := by
  induction l generalizing s with
  | nil => exact h
  | cons e l ih => exact ih (State.plainRam_poke h e.1 e.2)

/-- On a plain RAM each address reads as the last byte written to it (R91). -/
theorem State.peek_pokes_plain {s : State} (h : s.plainRam = true) (l : List (Word × Byte)) (a : Word) :
    (s.pokes l).peek a = (l.reverse.lookup a).getD (s.peek a) := by
  induction l using List.reverseRecOn with
  | nil => rfl
  | append_singleton l e ih =>
    rw [State.pokes_append, State.peek_poke_plain (State.plainRam_pokes h l), List.reverse_append]
    simp only [List.reverse_cons, List.reverse_nil, List.nil_append, List.singleton_append]
    obtain ⟨w, v⟩ := e
    by_cases ha : a = w
    · subst ha; simp [List.lookup]
    · have : (a == w) = false := by simpa using ha
      simp [List.lookup, this, ha, ih]

end Sys2Proof.Machine
end

