-- ==== Sys2Proof/Laws/Run.lean ====
section
/-! SUPPORT. What running a sequence can do, class by class (40_sequencer.md R171 to R174): one closed form for each template,
which the proofs about single instructions cite instead of unfolding the micro-steps. -/

namespace Sys2Proof.Machine

/-- The addressing mode and the operand bytes of an operand, as `run` takes them. -/
def Operand.mode : Operand → Option AddrMode
  | .imm _ => none
  | .zp _ => some .zp
  | .zpx _ => some .zpx
  | .zpy _ => some .zpy
  | .abs _ _ => some .abs
  | .abx _ _ => some .abx
  | .aby _ _ => some .aby
  | .inx _ => some .inx
  | .iny _ => some .iny

/-- The operand bytes, cycle by cycle. -/
def Operand.bytes : Operand → List (Option Byte)
  | .imm b1 => [some b1]
  | .zp b1 => [some b1]
  | .zpx b1 => [some b1]
  | .zpy b1 => [some b1]
  | .abs b1 b2 => [some b1, some b2]
  | .abx b1 b2 => [some b1, some b2]
  | .aby b1 b2 => [some b1, some b2]
  | .inx b1 => [some b1]
  | .iny b1 => [some b1]

@[simp] theorem State.operandCycle_none (s : State) : s.operandCycle none = s.clockCycle := rfl

@[simp] theorem State.operandCycle_some (b : Byte) (s : State) :
    s.operandCycle (some b) = s.clockCycle.withCpu { s.clockCycle.cpu with dbuf := b } := rfl

/-- The latches and trackers, which the lines change from tick to tick. -/
structure Latches where
  nmiPend : Bool
  irqPend : Bool
  resPend : Bool
  lastClk : Bool
  lastNmi : Bool

/-- The CPU that enters micro-step `k` when the one before it left `c` and the bus cycle between them sampled `d`. -/
def Cpu.cycled (k : Nat) (d : Byte) (l : Latches) (c : Cpu) : Cpu :=
  { c with
    cyc := k, dbuf := d, oaddr := c.paddr, odata := c.pdata, orw := c.prw, osync := c.psync
    nmiPend := l.nmiPend, irqPend := l.irqPend, resPend := l.resPend, lastClk := l.lastClk, lastNmi := l.lastNmi }

@[simp] theorem Cpu.cycled_a (k : Nat) (d : Byte) (l : Latches) (c : Cpu) : (c.cycled k d l).a = c.a := rfl
@[simp] theorem Cpu.cycled_x (k : Nat) (d : Byte) (l : Latches) (c : Cpu) : (c.cycled k d l).x = c.x := rfl
@[simp] theorem Cpu.cycled_y (k : Nat) (d : Byte) (l : Latches) (c : Cpu) : (c.cycled k d l).y = c.y := rfl
@[simp] theorem Cpu.cycled_sp (k : Nat) (d : Byte) (l : Latches) (c : Cpu) : (c.cycled k d l).sp = c.sp := rfl
@[simp] theorem Cpu.cycled_p (k : Nat) (d : Byte) (l : Latches) (c : Cpu) : (c.cycled k d l).p = c.p := rfl
@[simp] theorem Cpu.cycled_pc (k : Nat) (d : Byte) (l : Latches) (c : Cpu) : (c.cycled k d l).pc = c.pc := rfl
@[simp] theorem Cpu.cycled_paddr (k : Nat) (d : Byte) (l : Latches) (c : Cpu) : (c.cycled k d l).paddr = c.paddr := rfl
@[simp] theorem Cpu.cycled_pdata (k : Nat) (d : Byte) (l : Latches) (c : Cpu) : (c.cycled k d l).pdata = c.pdata := rfl
@[simp] theorem Cpu.cycled_prw (k : Nat) (d : Byte) (l : Latches) (c : Cpu) : (c.cycled k d l).prw = c.prw := rfl
@[simp] theorem Cpu.cycled_psync (k : Nat) (d : Byte) (l : Latches) (c : Cpu) : (c.cycled k d l).psync = c.psync := rfl
@[simp] theorem Cpu.cycled_tmp (k : Nat) (d : Byte) (l : Latches) (c : Cpu) : (c.cycled k d l).tmp = c.tmp := rfl
@[simp] theorem Cpu.cycled_tl (k : Nat) (d : Byte) (l : Latches) (c : Cpu) : (c.cycled k d l).tl = c.tl := rfl
@[simp] theorem Cpu.cycled_ir (k : Nat) (d : Byte) (l : Latches) (c : Cpu) : (c.cycled k d l).ir = c.ir := rfl
@[simp] theorem Cpu.cycled_dbuf (k : Nat) (d : Byte) (l : Latches) (c : Cpu) : (c.cycled k d l).dbuf = d := rfl
@[simp] theorem Cpu.cycled_cyc (k : Nat) (d : Byte) (l : Latches) (c : Cpu) : (c.cycled k d l).cyc = k := rfl
@[simp] theorem Cpu.cycled_oaddr (k : Nat) (d : Byte) (l : Latches) (c : Cpu) : (c.cycled k d l).oaddr = c.paddr := rfl
@[simp] theorem Cpu.cycled_odata (k : Nat) (d : Byte) (l : Latches) (c : Cpu) : (c.cycled k d l).odata = c.pdata := rfl
@[simp] theorem Cpu.cycled_orw (k : Nat) (d : Byte) (l : Latches) (c : Cpu) : (c.cycled k d l).orw = c.prw := rfl
@[simp] theorem Cpu.cycled_osync (k : Nat) (d : Byte) (l : Latches) (c : Cpu) : (c.cycled k d l).osync = c.psync := rfl
@[simp] theorem Cpu.cycled_nmiPend (k : Nat) (d : Byte) (l : Latches) (c : Cpu) : (c.cycled k d l).nmiPend = l.nmiPend := rfl
@[simp] theorem Cpu.cycled_irqPend (k : Nat) (d : Byte) (l : Latches) (c : Cpu) : (c.cycled k d l).irqPend = l.irqPend := rfl
@[simp] theorem Cpu.cycled_resPend (k : Nat) (d : Byte) (l : Latches) (c : Cpu) : (c.cycled k d l).resPend = l.resPend := rfl
@[simp] theorem Cpu.cycled_lastClk (k : Nat) (d : Byte) (l : Latches) (c : Cpu) : (c.cycled k d l).lastClk = l.lastClk := rfl
@[simp] theorem Cpu.cycled_lastNmi (k : Nat) (d : Byte) (l : Latches) (c : Cpu) : (c.cycled k d l).lastNmi = l.lastNmi := rfl

/-- `t` is `s` after clock cycles that consumed `n` ticks of input, apart from CPU registers and memory. -/
structure State.Spends (s t : State) (n : Nat) : Prop where
  cfg : t.cfg = s.cfg
  inputs : t.inputs = s.inputs.drop n

theorem State.Spends.trans {s t u : State} {n m : Nat} (h : s.Spends t n) (h' : t.Spends u m) : s.Spends u (n + m) where
  cfg := h'.cfg.trans h.cfg
  inputs := by rw [h'.inputs, h.inputs, List.drop_drop]

theorem State.Spends.withCpu {s t : State} {n : Nat} (h : s.Spends t n) (c : Cpu) : s.Spends (t.withCpu c) n :=
  ⟨h.cfg, h.inputs⟩

/-- One clock cycle, seen from the micro-step after it. -/
theorem State.operandCycle_cycled (b : Option Byte) (s : State) :
    ∃ l d, (s.operandCycle b).cpu = s.cpu.cycled s.cpu.cyc d l ∧ s.Spends (s.operandCycle b) (2 * s.cfg.clkDiv) ∧
      (s.cpu.prw = true → d = b.getD (s.peek s.cpu.paddr) ∧ s.SameMemory (s.operandCycle b)) ∧
      (s.cpu.prw = false → (s.poke s.cpu.paddr s.cpu.pdata).SameMemory (s.operandCycle b)) := by
  let c := s.clockCycle.cpu
  refine ⟨⟨c.nmiPend, c.irqPend, c.resPend, c.lastClk, c.lastNmi⟩, b.getD c.dbuf, ?_, ?_, ?_, ?_⟩
  · cases b with
    | none => exact s.clockCycle_cpu
    | some v =>
      show { s.clockCycle.cpu with dbuf := v } = _
      rw [s.clockCycle_cpu]; rfl
  · cases b <;> exact ⟨s.clockCycle_cfg, s.clockCycle_inputs⟩
  · intro h
    cases b with
    | none => exact ⟨s.clockCycle_dbuf_read h, s.sameMemory_clockCycle_read h⟩
    | some v => exact ⟨rfl, (s.sameMemory_clockCycle_read h).trans (State.sameMemory_withCpu _ _)⟩
  · intro h
    cases b with
    | none => exact s.sameMemory_clockCycle_write h
    | some v => exact (s.sameMemory_clockCycle_write h).trans (State.sameMemory_withCpu _ _)

/-- A micro-step that stages a read: the next one sees the byte read (or the operand byte). -/
theorem runFrom_read {k : Nat} {u : Micro} {us : List Micro} {ops : List (Option Byte)} {s : State} {c : Cpu}
    (h : u s.cpu = .more c) (hr : c.prw = true) :
    ∃ l t, runFrom k (u :: us) ops s = runFrom (k + 1) us ops.tail t ∧
      t.cpu = c.cycled (k + 1) ((ops.headD none).getD (s.peek c.paddr)) l ∧ s.SameMemory t ∧
      s.Spends t (2 * s.cfg.clkDiv) ∧
      busFrom k (u :: us) ops s =
        { addr := c.paddr, data := (ops.headD none).getD (s.peek c.paddr), write := false, sync := c.psync } ::
          busFrom (k + 1) us ops.tail t := by
  obtain ⟨l, d, hc, hs, hread, -⟩ :=
    State.operandCycle_cycled (ops.headD none) (s.withCpu { c with cyc := k + 1 })
  obtain ⟨hd, hm⟩ := hread hr
  refine ⟨l, (s.withCpu { c with cyc := k + 1 }).operandCycle (ops.headD none), by simp only [runFrom, h], ?_, ?_,
    ⟨hs.cfg, hs.inputs⟩, ?_⟩
  · rw [hc, hd]; rfl
  · exact (State.sameMemory_withCpu _ s).trans hm
  · have hd' : ((s.withCpu { c with cyc := k + 1 }).operandCycle (ops.headD none)).cpu.dbuf =
        (ops.headD none).getD (s.peek c.paddr) := by rw [hc, hd]; rfl
    simp only [busFrom, h]
    rw [if_pos hr, hd', Bool.not_eq_eq_eq_not.mpr (show c.prw = !false from hr)]

/-- A micro-step that stages a write: memory has the byte by the next one. -/
theorem runFrom_write {k : Nat} {u : Micro} {us : List Micro} {ops : List (Option Byte)} {s : State} {c : Cpu}
    (h : u s.cpu = .more c) (hr : c.prw = false) :
    ∃ l d t, runFrom k (u :: us) ops s = runFrom (k + 1) us ops.tail t ∧
      t.cpu = c.cycled (k + 1) d l ∧ (s.poke c.paddr c.pdata).SameMemory t ∧ s.Spends t (2 * s.cfg.clkDiv) ∧
      busFrom k (u :: us) ops s =
        { addr := c.paddr, data := c.pdata, write := true, sync := c.psync } :: busFrom (k + 1) us ops.tail t := by
  obtain ⟨l, d, hc, hs, -, hwrite⟩ :=
    State.operandCycle_cycled (ops.headD none) (s.withCpu { c with cyc := k + 1 })
  have hm := hwrite hr
  refine ⟨l, d, (s.withCpu { c with cyc := k + 1 }).operandCycle (ops.headD none), by simp only [runFrom, h], ?_, ?_,
    ⟨hs.cfg, hs.inputs⟩, ?_⟩
  · rw [hc]; rfl
  · exact ((State.sameMemory_withCpu { c with cyc := k + 1 } s).poke c.paddr c.pdata).trans hm
  · simp only [busFrom, h, hr, Bool.not_false, Bool.false_eq_true, if_false]

/-- A micro-step that retires ends the run. -/
theorem runFrom_retired {k : Nat} {u : Micro} {us : List Micro} {ops : List (Option Byte)} {s : State} {c : Cpu}
    (h : u s.cpu = .retired c) : runFrom k (u :: us) ops s = .next (s.withCpu { c with cyc := 0 }) := by
  simp only [runFrom, h]

theorem busFrom_retired {k : Nat} {u : Micro} {us : List Micro} {ops : List (Option Byte)} {s : State} {c : Cpu}
    (h : u s.cpu = .retired c) : busFrom k (u :: us) ops s = [] := by
  simp only [busFrom, h]

/-- A micro-step that the spec gives no meaning ends the run. -/
theorem runFrom_refuse {k : Nat} {u : Micro} {us : List Micro} {ops : List (Option Byte)} {s : State} {r : Refusal}
    (h : u s.cpu = .refuse r) : runFrom k (u :: us) ops s = .refused r := by
  simp only [runFrom, h]

/-- Clock cycles add up. -/
theorem State.Spends.cycle {s t u : State} {n : Nat} (h : s.Spends t (2 * s.cfg.clkDiv * n))
    (h' : t.Spends u (2 * t.cfg.clkDiv)) : s.Spends u (2 * s.cfg.clkDiv * (n + 1)) := by
  have h2 := h.trans h'
  rwa [h.cfg, ← Nat.mul_succ] at h2

theorem State.Spends.one {s t : State} (h : s.Spends t (2 * s.cfg.clkDiv)) : s.Spends t (2 * s.cfg.clkDiv * 1) := by
  simpa using h

@[simp] theorem word_add_one_add_one (w : Word) : w + 1#16 + 1#16 = w + 2#16 := by
  rw [BitVec.add_assoc]; rfl

@[simp] theorem word_add_one_add_one_add_one (w : Word) : w + 2#16 + 1#16 = w + 3#16 := by
  rw [BitVec.add_assoc]; rfl

@[simp] theorem byte_sub_one_sub_one (b : Byte) : b - 1#8 - 1#8 = b - 2#8 := by
  bv_omega

@[simp] theorem byte_sub_two_sub_one (b : Byte) : b - 2#8 - 1#8 = b - 3#8 := by
  bv_omega

@[simp] theorem byte_sub_one_sub_two (b : Byte) : b - 1#8 - 2#8 = b - 3#8 := by
  bv_omega

@[simp] theorem byte_add_one_add_one (b : Byte) : b + 1#8 + 1#8 = b + 2#8 := by
  rw [BitVec.add_assoc]; rfl

@[simp] theorem byte_add_two_add_one (b : Byte) : b + 2#8 + 1#8 = b + 3#8 := by
  rw [BitVec.add_assoc]; rfl

/-- Micro-step 0 and address formation (R158, R163 to R168): what step `a` stages is staged with the effective address of
R170, in a CPU whose registers are those at dispatch but for `PC`, which has passed the whole instruction. -/
theorem runFrom_formation (o : Operand) (m : AddrMode) (hm : o.mode = some m) (stage : Word → Cpu → Cpu)
    (rest : List Micro) (s : State) :
    ∃ (t : State) (ea : Word) (u : Micro) (c : Cpu), o.address s = some ea ∧
      runFrom 0 (microZero :: (formation m stage ++ rest)) o.bytes s = runFrom (o.cycles - 2) (u :: rest) [] t ∧
      u t.cpu = .more (stage ea c) ∧
      (t.withCpu c).regs = { s.regs with pc := s.cpu.pc + o.length } ∧ c.ir = s.cpu.ir ∧ c.pdata = s.cpu.pdata ∧
      s.SameMemory t ∧ s.Spends t (2 * s.cfg.clkDiv * (o.cycles - 2)) ∧
      busFrom 0 (microZero :: (formation m stage ++ rest)) o.bytes s =
        o.addressReads s ++ busFrom (o.cycles - 2) (u :: rest) [] t := by
  obtain ⟨l1, t1, e1, c1, m1, g1, b1⟩ := runFrom_read (k := 0) (u := microZero) (us := formation m stage ++ rest)
    (ops := o.bytes) (s := s) rfl rfl
  replace g1 := g1.one
  rw [e1, b1]
  clear b1
  cases o <;> simp only [Operand.mode, Option.some.injEq, reduceCtorEq] at hm <;> subst hm
  case zp b1 =>
    refine ⟨t1, _, _, t1.cpu.incPc, rfl, rfl, ?_, ?_, ?_, ?_, m1, g1, ?_⟩
    · have h : t1.cpu.dbuf = b1 := by simp [c1, Operand.bytes]
      simp only [h]
    rotate_left 3
    · rfl
    all_goals simp [State.regs, Operand.length, c1]
  case zpx b1 =>
    obtain ⟨l2, t2, e2, c2, m2, g2, y2⟩ := runFrom_read (k := 0 + 1) (u := formIndexZp Cpu.x)
      (us := (fun c => .more (stage (zext16 c.tmp) c)) :: rest) (ops := []) (s := t1) rfl rfl
    refine ⟨t2, _, _, t2.cpu, rfl, e2, ?_, ?_, ?_, ?_, m1.trans m2, g1.cycle g2, ?_⟩
    · have h : t2.cpu.tmp = b1 + s.cpu.x := by simp [c2, c1, Operand.bytes]
      simp only [h]
    rotate_left 3
    · refine (congrArg (List.cons _) y2).trans ?_
      simp [Operand.addressReads, Operand.bytes, busRead, Operand.cycles, c1, m1.peek]
    all_goals simp [State.regs, Operand.length, c2, c1]
  case zpy b1 =>
    obtain ⟨l2, t2, e2, c2, m2, g2, y2⟩ := runFrom_read (k := 0 + 1) (u := formIndexZp Cpu.y)
      (us := (fun c => .more (stage (zext16 c.tmp) c)) :: rest) (ops := []) (s := t1) rfl rfl
    refine ⟨t2, _, _, t2.cpu, rfl, e2, ?_, ?_, ?_, ?_, m1.trans m2, g1.cycle g2, ?_⟩
    · have h : t2.cpu.tmp = b1 + s.cpu.y := by simp [c2, c1, Operand.bytes]
      simp only [h]
    rotate_left 3
    · refine (congrArg (List.cons _) y2).trans ?_
      simp [Operand.addressReads, Operand.bytes, busRead, Operand.cycles, c1, m1.peek]
    all_goals simp [State.regs, Operand.length, c2, c1]
  case abs b1 b2 =>
    obtain ⟨l2, t2, e2, c2, m2, g2, y2⟩ := runFrom_read (k := 0 + 1) (u := formLow)
      (us := (fun c => .more (stage (word c.dbuf c.tmp) c.incPc)) :: rest) (ops := [some b2]) (s := t1) rfl rfl
    refine ⟨t2, _, _, t2.cpu.incPc, rfl, e2, ?_, ?_, ?_, ?_, m1.trans m2, g1.cycle g2, ?_⟩
    · have h : word t2.cpu.dbuf t2.cpu.tmp = word b2 b1 := by simp [c2, c1, Operand.bytes]
      simp only [h]
    rotate_left 3
    · refine (congrArg (List.cons _) y2).trans ?_
      simp [Operand.addressReads, Operand.bytes, busRead, Operand.cycles, c1, m1.peek]
    all_goals simp [State.regs, Operand.length, c2, c1]
  case abx b1 b2 =>
    obtain ⟨l2, t2, e2, c2, m2, g2, y2⟩ := runFrom_read (k := 0 + 1) (u := formLow)
      (us := (fun c => .more (stage (word c.dbuf c.tmp + zext16 c.x) c.incPc)) :: rest) (ops := [some b2]) (s := t1) rfl rfl
    refine ⟨t2, _, _, t2.cpu.incPc, rfl, e2, ?_, ?_, ?_, ?_, m1.trans m2, g1.cycle g2, ?_⟩
    · have h : word t2.cpu.dbuf t2.cpu.tmp + zext16 t2.cpu.x = word b2 b1 + zext16 s.cpu.x := by simp [c2, c1, Operand.bytes]
      simp only [h]
    rotate_left 3
    · refine (congrArg (List.cons _) y2).trans ?_
      simp [Operand.addressReads, Operand.bytes, busRead, Operand.cycles, c1, m1.peek]
    all_goals simp [State.regs, Operand.length, c2, c1]
  case aby b1 b2 =>
    obtain ⟨l2, t2, e2, c2, m2, g2, y2⟩ := runFrom_read (k := 0 + 1) (u := formLow)
      (us := (fun c => .more (stage (word c.dbuf c.tmp + zext16 c.y) c.incPc)) :: rest) (ops := [some b2]) (s := t1) rfl rfl
    refine ⟨t2, _, _, t2.cpu.incPc, rfl, e2, ?_, ?_, ?_, ?_, m1.trans m2, g1.cycle g2, ?_⟩
    · have h : word t2.cpu.dbuf t2.cpu.tmp + zext16 t2.cpu.y = word b2 b1 + zext16 s.cpu.y := by simp [c2, c1, Operand.bytes]
      simp only [h]
    rotate_left 3
    · refine (congrArg (List.cons _) y2).trans ?_
      simp [Operand.addressReads, Operand.bytes, busRead, Operand.cycles, c1, m1.peek]
    all_goals simp [State.regs, Operand.length, c2, c1]
  case inx b1 =>
    obtain ⟨l2, t2, e2, c2, m2, g2, y2⟩ := runFrom_read (k := 0 + 1) (u := formIndexZp Cpu.x)
      (us := (fun c => .more (c.fetch (zext16 c.tmp))) :: formPointerHigh ::
        (fun c => .more (stage (word c.dbuf c.tl) c)) :: rest) (ops := []) (s := t1) rfl rfl
    obtain ⟨l3, t3, e3, c3, m3, g3, y3⟩ := runFrom_read (k := 0 + 1 + 1) (u := fun c => .more (c.fetch (zext16 c.tmp)))
      (us := formPointerHigh :: (fun c => .more (stage (word c.dbuf c.tl) c)) :: rest) (ops := []) (s := t2) rfl rfl
    obtain ⟨l4, t4, e4, c4, m4, g4, y4⟩ := runFrom_read (k := 0 + 1 + 1 + 1) (u := formPointerHigh)
      (us := (fun c => .more (stage (word c.dbuf c.tl) c)) :: rest) (ops := []) (s := t3) rfl rfl
    have p2 : ∀ w, t2.peek w = s.peek w := (m1.trans m2).peek
    have p3 : ∀ w, t3.peek w = s.peek w := ((m1.trans m2).trans m3).peek
    refine ⟨t4, _, _, t4.cpu, rfl, e2.trans (e3.trans e4), ?_, ?_, ?_, ?_, ((m1.trans m2).trans m3).trans m4,
      ((g1.cycle g2).cycle g3).cycle g4, ?_⟩
    · have h : word t4.cpu.dbuf t4.cpu.tl = s.zpPointer (b1 + s.cpu.x) := by
        simp [c4, c3, c2, c1, Operand.bytes, p2, p3, State.zpPointer]
      simp only [h]
    rotate_left 3
    · refine (congrArg (List.cons _)
        (y2.trans (congrArg (List.cons _) (y3.trans (congrArg (List.cons _) y4))))).trans ?_
      simp [Operand.addressReads, Operand.bytes, busRead, Operand.cycles, c3, c2, c1, m1.peek, p2, p3]
    all_goals simp [State.regs, Operand.length, c4, c3, c2, c1]
  case iny b1 =>
    obtain ⟨l2, t2, e2, c2, m2, g2, y2⟩ := runFrom_read (k := 0 + 1)
      (u := fun c => .more ({ c.incPc with tmp := c.dbuf }.fetch (zext16 c.dbuf)))
      (us := formPointerHigh :: (fun c => .more (stage (word c.dbuf c.tl + zext16 c.y) c)) :: rest)
      (ops := []) (s := t1) rfl rfl
    obtain ⟨l3, t3, e3, c3, m3, g3, y3⟩ := runFrom_read (k := 0 + 1 + 1) (u := formPointerHigh)
      (us := (fun c => .more (stage (word c.dbuf c.tl + zext16 c.y) c)) :: rest) (ops := []) (s := t2) rfl rfl
    have p1 : ∀ w, t1.peek w = s.peek w := m1.peek
    have p2 : ∀ w, t2.peek w = s.peek w := (m1.trans m2).peek
    refine ⟨t3, _, _, t3.cpu, rfl, e2.trans e3, ?_, ?_, ?_, ?_, (m1.trans m2).trans m3, (g1.cycle g2).cycle g3, ?_⟩
    · have h : word t3.cpu.dbuf t3.cpu.tl + zext16 t3.cpu.y = s.zpPointer b1 + zext16 s.cpu.y := by
        simp [c3, c2, c1, Operand.bytes, p1, p2, State.zpPointer]
      simp only [h]
    rotate_left 3
    · refine (congrArg (List.cons _) (y2.trans (congrArg (List.cons _) y3))).trans ?_
      simp [Operand.addressReads, Operand.bytes, busRead, Operand.cycles, c2, c1, p1, p2]
    all_goals simp [State.regs, Operand.length, c3, c2, c1]

end Sys2Proof.Machine
end

