-- ==== Sys2Proof/Laws/Classes.lean ====
section
/-! SUPPORT. What each class of instruction does as a whole (40_sequencer.md R169 to R175): one lemma per template, from which
the statements about single instructions follow by naming the operation. -/

namespace Sys2Proof.Machine

/-- The six registers of a CPU. -/
def Cpu.regs (c : Cpu) : Regs :=
  { a := c.a, x := c.x, y := c.y, sp := c.sp, p := c.p, pc := c.pc }

theorem State.regs_cpu (s : State) : s.regs = s.cpu.regs := rfl

/-- The last micro-step of an instruction whose `n` cycles are spent. -/
theorem retires_of {s u : State} {n : Nat} {c : Cpu} (hir : c.ir = s.cpu.ir)
    (hs : s.Spends u (2 * s.cfg.clkDiv * (n - 1))) :
    Retires s (u.withCpu { c.retire with cyc := 0 }) n c.regs :=
  ⟨rfl, rfl, rfl, rfl, rfl, hir, hs.cfg, hs.inputs⟩

theorem keepsMemory_of {s u : State} (c : Cpu) (hm : s.SameMemory u) : KeepsMemory s (u.withCpu c) :=
  ⟨hm.mems, fun w => hm.peek w⟩

theorem stores_of {s u : State} (c : Cpu) {l : List (Word × Byte)} (hm : (s.pokes l).SameMemory u) :
    Stores s (u.withCpu c) l :=
  ⟨hm.mems, fun w => hm.peek w, fun hr w => (hm.peek w).trans (State.peek_pokes_plain hr l w)⟩

/-- Class R (R169, R171): the operation sees the operand byte and registers whose `PC` has passed the instruction. -/
theorem run_read {o : Operand} {op : ReadOp} {s : State} {r : Regs} {seq : List Micro}
    (hseq : seq = match o.mode with | some m => seqRead m op | none => seqReadImm op)
    (hop : ∀ c : Cpu, c.regs = { s.regs with pc := s.cpu.pc + o.length } →
      ∃ c', op (o.value s) c = .ok c' ∧ c'.regs = r ∧ c'.ir = c.ir) :
    ∃ t, run seq o.bytes s = .next t ∧ Retires s t o.cycles r ∧ KeepsMemory s t ∧
      busFrom 0 seq o.bytes s = o.loadReads s := by
  subst hseq
  cases hm : o.mode with
  | none =>
    cases o <;> simp only [Operand.mode, reduceCtorEq] at hm
    case imm b1 =>
    obtain ⟨l, t, e, c, m, g, y⟩ := runFrom_read (k := 0) (u := microZero) (us := [fun c => readEnd op c.incPc])
      (ops := [some b1]) (s := s) rfl rfl
    obtain ⟨c', h1, h2, h3⟩ := hop t.cpu.incPc (by simp [Cpu.regs, State.regs, Operand.length, c])
    have hd : t.cpu.incPc.dbuf = b1 := by simp [c]
    have hir : c'.ir = s.cpu.ir := by rw [h3]; simp [c]
    refine ⟨t.withCpu { c'.retire with cyc := 0 }, ?_, ?_, keepsMemory_of _ m, ?_⟩
    · rw [run, seqReadImm, Operand.bytes, e]
      refine runFrom_retired (c := c'.retire) ?_
      simp only [readEnd, hd]; rw [show b1 = (Operand.imm b1).value s from rfl, h1]
    · rw [← h2]; exact retires_of hir g.one
    · refine y.trans ?_
      rw [busFrom_retired (c := c'.retire)
        (by simp only [readEnd, hd]; rw [show b1 = (Operand.imm b1).value s from rfl, h1])]
      rfl
  | some m =>
    obtain ⟨t, ea, u, c, ha, he, hu, hr, hir, hpd, hm', hg, hy⟩ :=
      runFrom_formation o m hm Cpu.fetch [readEnd op] s
    obtain ⟨l2, t2, e2, c2, m2, g2, y2⟩ := runFrom_read (k := o.cycles - 2) (us := [readEnd op]) (ops := []) hu rfl
    have hc2 : o.cycles - 2 + 1 = o.cycles - 1 := by cases o <;> rfl
    have hd : t2.cpu.dbuf = o.value s := by
      rw [c2]; cases o <;> simp_all [Operand.value, hm'.peek, Operand.mode]
    obtain ⟨c', h1, h2, h3⟩ := hop t2.cpu (by rw [← hr, c2]; simp [Cpu.regs, State.regs])
    have hir' : c'.ir = s.cpu.ir := by rw [h3, c2]; simpa using hir
    refine ⟨t2.withCpu { c'.retire with cyc := 0 }, ?_, ?_, keepsMemory_of _ (hm'.trans m2), ?_⟩
    · show run (seqRead m op) o.bytes s = _
      rw [run, seqRead, List.cons_append, he, e2]
      refine runFrom_retired (c := c'.retire) ?_
      simp only [readEnd, hd, h1]
    · rw [← h2]
      refine retires_of hir' ?_
      rw [← hc2]; exact hg.cycle g2
    · refine hy.trans ?_
      rw [y2, busFrom_retired (c := c'.retire) (by simp only [readEnd, hd, h1])]
      simp [Operand.loadReads, ha, busRead, hm'.peek]

/-- Class R where the spec gives the operation no meaning (R224). -/
theorem run_read_refused {o : Operand} {op : ReadOp} {s : State} {r : Refusal} {seq : List Micro}
    (hseq : seq = match o.mode with | some m => seqRead m op | none => seqReadImm op)
    (hop : ∀ v c, c.p = s.cpu.p → op v c = .error r) :
    run seq o.bytes s = .refused r := by
  subst hseq
  cases hm : o.mode with
  | none =>
    cases o <;> simp only [Operand.mode, reduceCtorEq] at hm
    case imm b1 =>
    obtain ⟨l, t, e, c, m, g, y⟩ := runFrom_read (k := 0) (u := microZero) (us := [fun c => readEnd op c.incPc])
      (ops := [some b1]) (s := s) rfl rfl
    rw [run, seqReadImm, Operand.bytes, e]
    refine runFrom_refuse ?_
    simp only [readEnd]; rw [hop _ _ (by simp [c])]
  | some m =>
    obtain ⟨t, ea, u, c, ha, he, hu, hr, hir, hpd, hm', hg, hy⟩ :=
      runFrom_formation o m hm Cpu.fetch [readEnd op] s
    obtain ⟨l2, t2, e2, c2, m2, g2, y2⟩ := runFrom_read (k := o.cycles - 2) (us := [readEnd op]) (ops := []) hu rfl
    show run (seqRead m op) o.bytes s = _
    rw [run, seqRead, List.cons_append, he, e2]
    refine runFrom_refuse ?_
    have hp := congrArg Regs.p hr
    simp only [readEnd]; rw [hop _ _ (by rw [c2]; simpa [State.regs] using hp)]

/-- Class W (R172): one write of the register at the effective address. -/
theorem run_write {o : Operand} {m : AddrMode} {r : Cpu → Byte} {s : State} (hm : o.mode = some m)
    (hr : ∀ c : Cpu, c.regs = { s.regs with pc := s.cpu.pc + o.length } → r c = r s.cpu) :
    ∃ t ea, o.address s = some ea ∧ run (seqWrite m r) o.bytes s = .next t ∧
      Retires s t o.cycles { s.regs with pc := s.cpu.pc + o.length } ∧ Stores s t [(ea, r s.cpu)] ∧
      busFrom 0 (seqWrite m r) o.bytes s = o.addressReads s ++ [busWrite ea (r s.cpu)] := by
  obtain ⟨t, ea, u, c, ha, he, hu, hregs, hir, hpd, hm', hg, hy⟩ :=
    runFrom_formation o m hm (fun ea c => c.store ea (r c)) [microRetire] s
  obtain ⟨l2, d, t2, e2, c2, m2, g2, y2⟩ := runFrom_write (k := o.cycles - 2) (us := [microRetire]) (ops := []) hu rfl
  have hc2 : o.cycles - 2 + 1 = o.cycles - 1 := by cases o <;> rfl
  have hrc : r c = r s.cpu := hr c hregs
  have hregs2 : t2.cpu.regs = { s.regs with pc := s.cpu.pc + o.length } := by
    rw [← hregs, c2]; simp [Cpu.regs, State.regs]
  refine ⟨t2.withCpu { t2.cpu.retire with cyc := 0 }, ea, ha, ?_, ?_, ?_, ?_⟩
  · rw [run, seqWrite, List.cons_append, he, e2]
    exact runFrom_retired (c := t2.cpu.retire) rfl
  · rw [← hregs2]
    refine retires_of ?_ ?_
    · rw [c2]; simpa using hir
    · rw [← hc2]; exact hg.cycle g2
  · refine stores_of _ ((hm'.poke ea (r s.cpu)).trans ?_)
    rw [← hrc]; exact m2
  · refine hy.trans ?_
    rw [y2, busFrom_retired (c := t2.cpu.retire) rfl]
    simp [busWrite, hrc]

/-- Class M on memory (R173): one write of the new value at the effective address. -/
theorem run_modify {o : Operand} {m : AddrMode} {f : ModifyOp} {s : State} {v : Byte} {r : Regs} (hm : o.mode = some m)
    (hf : ∀ c : Cpu, c.regs = { s.regs with pc := s.cpu.pc + o.length } →
      (f (o.value s) c).1 = v ∧ (f (o.value s) c).2.regs = r ∧ (f (o.value s) c).2.ir = c.ir) :
    ∃ t ea, o.address s = some ea ∧ run (seqModify m f) o.bytes s = .next t ∧
      Retires s t (o.cycles + 2) r ∧ Stores s t [(ea, v)] ∧
      busFrom 0 (seqModify m f) o.bytes s =
        o.addressReads s ++ [busRead ea (s.peek ea), busRead ea (s.peek ea), busWrite ea v] := by
  obtain ⟨t, ea, u, c, ha, he, hu, hregs, hir, hpd, hm', hg, hy⟩ :=
    runFrom_formation o m hm Cpu.fetch
      [ fun c => .more { c with tmp := c.dbuf }.idle,
        fun c => .more ((f c.tmp c).2.store c.paddr (f c.tmp c).1),
        microRetire ] s
  obtain ⟨l2, t2, e2, c2, m2, g2, y2⟩ := runFrom_read (k := o.cycles - 2)
    (us := [ fun c => .more { c with tmp := c.dbuf }.idle,
        fun c => .more ((f c.tmp c).2.store c.paddr (f c.tmp c).1),
        microRetire ]) (ops := []) hu rfl
  obtain ⟨l3, t3, e3, c3, m3, g3, y3⟩ := runFrom_read (k := o.cycles - 2 + 1)
    (u := fun c => .more { c with tmp := c.dbuf }.idle)
    (us := [ fun c => .more ((f c.tmp c).2.store c.paddr (f c.tmp c).1), microRetire ]) (ops := []) (s := t2) rfl rfl
  obtain ⟨l4, d, t4, e4, c4, m4, g4, y4⟩ := runFrom_write (k := o.cycles - 2 + 1 + 1)
    (u := fun c => .more ((f c.tmp c).2.store c.paddr (f c.tmp c).1)) (us := [microRetire]) (ops := []) (s := t3) rfl rfl
  have hv : t3.cpu.tmp = o.value s := by
    simp only [c3, c2]; cases o <;> simp_all [Operand.value, hm'.peek, Operand.mode]
  have hp : t3.cpu.paddr = ea := by simp [c3, c2]
  obtain ⟨h1, h2, h3⟩ := hf t3.cpu (by rw [← hregs]; simp [c3, c2, Cpu.regs, State.regs])
  rw [hv, hp, h1] at c4 m4
  have hregs4 : t4.cpu.regs = r := by rw [← h2]; simp [c4, Cpu.regs]
  refine ⟨t4.withCpu { t4.cpu.retire with cyc := 0 }, ea, ha, ?_, ?_, ?_, ?_⟩
  · rw [run, seqModify, List.cons_append, he, e2]
    exact e3.trans (e4.trans (runFrom_retired (c := t4.cpu.retire) rfl))
  · rw [← hregs4]
    refine retires_of ?_ ?_
    · simp only [c4, Cpu.cycled_ir, Cpu.store_ir, h3]; simp [c3, c2, hir]
    · have hc : o.cycles + 2 - 1 = o.cycles - 2 + 1 + 1 + 1 := by cases o <;> rfl
      rw [hc]; exact ((hg.cycle g2).cycle g3).cycle g4
  · exact stores_of _ ((((hm'.trans m2).trans m3).poke ea v).trans m4)
  · refine hy.trans (congrArg _ ?_)
    refine y2.trans (congrArg₂ List.cons ?_ (y3.trans (congrArg₂ List.cons ?_ (y4.trans (congrArg₂ List.cons ?_ ?_)))))
    · simp [busRead, hm'.peek]
    · simp [busRead, c2, (hm'.trans m2).peek]
    · simp [busWrite, hv, hp, h1]
    · exact busFrom_retired (c := t4.cpu.retire) rfl

end Sys2Proof.Machine
end

