-- ==== Sys2Proof/Laws/PerInstr.lean ====
section
/-! SUPPORT. Facts about every instruction as syntax, one lemma per constructor: the encoding is as long as R120 says, at most
three bytes, and exactly the instructions with an encoding are well-formed (R126). -/

namespace Sys2Proof.Laws.Layout

/-- The encoding has the length of the opcode table, at most three bytes; it is empty just for a pseudo-instruction. -/
def Statement (i : Instr) : Prop :=
  (encode i).length = i.length ∧ (i.length ≤ 3) ∧ i.wellFormed = decide (1 ≤ i.length)

theorem brk : Statement .brk := ⟨rfl, Nat.le_of_ble_eq_true rfl, rfl⟩
theorem oraInx (b1 : Byte) : Statement (Instr.oraInx b1) := ⟨rfl, Nat.le_of_ble_eq_true rfl, rfl⟩
theorem unmapped02 : Statement .unmapped02 := ⟨rfl, Nat.le_of_ble_eq_true rfl, rfl⟩
theorem unmapped03 : Statement .unmapped03 := ⟨rfl, Nat.le_of_ble_eq_true rfl, rfl⟩
theorem unmapped04 : Statement .unmapped04 := ⟨rfl, Nat.le_of_ble_eq_true rfl, rfl⟩
theorem oraZp (b1 : Byte) : Statement (Instr.oraZp b1) := ⟨rfl, Nat.le_of_ble_eq_true rfl, rfl⟩
theorem aslZp (b1 : Byte) : Statement (Instr.aslZp b1) := ⟨rfl, Nat.le_of_ble_eq_true rfl, rfl⟩
theorem unmapped07 : Statement .unmapped07 := ⟨rfl, Nat.le_of_ble_eq_true rfl, rfl⟩
theorem php : Statement .php := ⟨rfl, Nat.le_of_ble_eq_true rfl, rfl⟩
theorem oraImm (b1 : Byte) : Statement (Instr.oraImm b1) := ⟨rfl, Nat.le_of_ble_eq_true rfl, rfl⟩
theorem aslAcc : Statement .aslAcc := ⟨rfl, Nat.le_of_ble_eq_true rfl, rfl⟩
theorem unmapped0B : Statement .unmapped0B := ⟨rfl, Nat.le_of_ble_eq_true rfl, rfl⟩
theorem unmapped0C : Statement .unmapped0C := ⟨rfl, Nat.le_of_ble_eq_true rfl, rfl⟩
theorem oraAbs (b1 b2 : Byte) : Statement (Instr.oraAbs b1 b2) := ⟨rfl, Nat.le_of_ble_eq_true rfl, rfl⟩
theorem aslAbs (b1 b2 : Byte) : Statement (Instr.aslAbs b1 b2) := ⟨rfl, Nat.le_of_ble_eq_true rfl, rfl⟩
theorem unmapped0F : Statement .unmapped0F := ⟨rfl, Nat.le_of_ble_eq_true rfl, rfl⟩
theorem bpl (b1 : Byte) : Statement (Instr.bpl b1) := ⟨rfl, Nat.le_of_ble_eq_true rfl, rfl⟩
theorem oraIny (b1 : Byte) : Statement (Instr.oraIny b1) := ⟨rfl, Nat.le_of_ble_eq_true rfl, rfl⟩
theorem unmapped12 : Statement .unmapped12 := ⟨rfl, Nat.le_of_ble_eq_true rfl, rfl⟩
theorem unmapped13 : Statement .unmapped13 := ⟨rfl, Nat.le_of_ble_eq_true rfl, rfl⟩
theorem unmapped14 : Statement .unmapped14 := ⟨rfl, Nat.le_of_ble_eq_true rfl, rfl⟩
theorem oraZpx (b1 : Byte) : Statement (Instr.oraZpx b1) := ⟨rfl, Nat.le_of_ble_eq_true rfl, rfl⟩
theorem aslZpx (b1 : Byte) : Statement (Instr.aslZpx b1) := ⟨rfl, Nat.le_of_ble_eq_true rfl, rfl⟩
theorem unmapped17 : Statement .unmapped17 := ⟨rfl, Nat.le_of_ble_eq_true rfl, rfl⟩
theorem clc : Statement .clc := ⟨rfl, Nat.le_of_ble_eq_true rfl, rfl⟩
theorem oraAby (b1 b2 : Byte) : Statement (Instr.oraAby b1 b2) := ⟨rfl, Nat.le_of_ble_eq_true rfl, rfl⟩
theorem unmapped1A : Statement .unmapped1A := ⟨rfl, Nat.le_of_ble_eq_true rfl, rfl⟩
theorem unmapped1B : Statement .unmapped1B := ⟨rfl, Nat.le_of_ble_eq_true rfl, rfl⟩
theorem unmapped1C : Statement .unmapped1C := ⟨rfl, Nat.le_of_ble_eq_true rfl, rfl⟩
theorem oraAbx (b1 b2 : Byte) : Statement (Instr.oraAbx b1 b2) := ⟨rfl, Nat.le_of_ble_eq_true rfl, rfl⟩
theorem aslAbx (b1 b2 : Byte) : Statement (Instr.aslAbx b1 b2) := ⟨rfl, Nat.le_of_ble_eq_true rfl, rfl⟩
theorem unmapped1F : Statement .unmapped1F := ⟨rfl, Nat.le_of_ble_eq_true rfl, rfl⟩
theorem jsr (b1 b2 : Byte) : Statement (Instr.jsr b1 b2) := ⟨rfl, Nat.le_of_ble_eq_true rfl, rfl⟩
theorem andInx (b1 : Byte) : Statement (Instr.andInx b1) := ⟨rfl, Nat.le_of_ble_eq_true rfl, rfl⟩
theorem unmapped22 : Statement .unmapped22 := ⟨rfl, Nat.le_of_ble_eq_true rfl, rfl⟩
theorem unmapped23 : Statement .unmapped23 := ⟨rfl, Nat.le_of_ble_eq_true rfl, rfl⟩
theorem bitZp (b1 : Byte) : Statement (Instr.bitZp b1) := ⟨rfl, Nat.le_of_ble_eq_true rfl, rfl⟩
theorem andZp (b1 : Byte) : Statement (Instr.andZp b1) := ⟨rfl, Nat.le_of_ble_eq_true rfl, rfl⟩
theorem rolZp (b1 : Byte) : Statement (Instr.rolZp b1) := ⟨rfl, Nat.le_of_ble_eq_true rfl, rfl⟩
theorem unmapped27 : Statement .unmapped27 := ⟨rfl, Nat.le_of_ble_eq_true rfl, rfl⟩
theorem plp : Statement .plp := ⟨rfl, Nat.le_of_ble_eq_true rfl, rfl⟩
theorem andImm (b1 : Byte) : Statement (Instr.andImm b1) := ⟨rfl, Nat.le_of_ble_eq_true rfl, rfl⟩
theorem rolAcc : Statement .rolAcc := ⟨rfl, Nat.le_of_ble_eq_true rfl, rfl⟩
theorem unmapped2B : Statement .unmapped2B := ⟨rfl, Nat.le_of_ble_eq_true rfl, rfl⟩
theorem bitAbs (b1 b2 : Byte) : Statement (Instr.bitAbs b1 b2) := ⟨rfl, Nat.le_of_ble_eq_true rfl, rfl⟩
theorem andAbs (b1 b2 : Byte) : Statement (Instr.andAbs b1 b2) := ⟨rfl, Nat.le_of_ble_eq_true rfl, rfl⟩
theorem rolAbs (b1 b2 : Byte) : Statement (Instr.rolAbs b1 b2) := ⟨rfl, Nat.le_of_ble_eq_true rfl, rfl⟩
theorem unmapped2F : Statement .unmapped2F := ⟨rfl, Nat.le_of_ble_eq_true rfl, rfl⟩
theorem bmi (b1 : Byte) : Statement (Instr.bmi b1) := ⟨rfl, Nat.le_of_ble_eq_true rfl, rfl⟩
theorem andIny (b1 : Byte) : Statement (Instr.andIny b1) := ⟨rfl, Nat.le_of_ble_eq_true rfl, rfl⟩
theorem unmapped32 : Statement .unmapped32 := ⟨rfl, Nat.le_of_ble_eq_true rfl, rfl⟩
theorem unmapped33 : Statement .unmapped33 := ⟨rfl, Nat.le_of_ble_eq_true rfl, rfl⟩
theorem unmapped34 : Statement .unmapped34 := ⟨rfl, Nat.le_of_ble_eq_true rfl, rfl⟩
theorem andZpx (b1 : Byte) : Statement (Instr.andZpx b1) := ⟨rfl, Nat.le_of_ble_eq_true rfl, rfl⟩
theorem rolZpx (b1 : Byte) : Statement (Instr.rolZpx b1) := ⟨rfl, Nat.le_of_ble_eq_true rfl, rfl⟩
theorem unmapped37 : Statement .unmapped37 := ⟨rfl, Nat.le_of_ble_eq_true rfl, rfl⟩
theorem sec : Statement .sec := ⟨rfl, Nat.le_of_ble_eq_true rfl, rfl⟩
theorem andAby (b1 b2 : Byte) : Statement (Instr.andAby b1 b2) := ⟨rfl, Nat.le_of_ble_eq_true rfl, rfl⟩
theorem unmapped3A : Statement .unmapped3A := ⟨rfl, Nat.le_of_ble_eq_true rfl, rfl⟩
theorem unmapped3B : Statement .unmapped3B := ⟨rfl, Nat.le_of_ble_eq_true rfl, rfl⟩
theorem unmapped3C : Statement .unmapped3C := ⟨rfl, Nat.le_of_ble_eq_true rfl, rfl⟩
theorem andAbx (b1 b2 : Byte) : Statement (Instr.andAbx b1 b2) := ⟨rfl, Nat.le_of_ble_eq_true rfl, rfl⟩
theorem rolAbx (b1 b2 : Byte) : Statement (Instr.rolAbx b1 b2) := ⟨rfl, Nat.le_of_ble_eq_true rfl, rfl⟩
theorem unmapped3F : Statement .unmapped3F := ⟨rfl, Nat.le_of_ble_eq_true rfl, rfl⟩
theorem rti : Statement .rti := ⟨rfl, Nat.le_of_ble_eq_true rfl, rfl⟩
theorem eorInx (b1 : Byte) : Statement (Instr.eorInx b1) := ⟨rfl, Nat.le_of_ble_eq_true rfl, rfl⟩
theorem unmapped42 : Statement .unmapped42 := ⟨rfl, Nat.le_of_ble_eq_true rfl, rfl⟩
theorem unmapped43 : Statement .unmapped43 := ⟨rfl, Nat.le_of_ble_eq_true rfl, rfl⟩
theorem unmapped44 : Statement .unmapped44 := ⟨rfl, Nat.le_of_ble_eq_true rfl, rfl⟩
theorem eorZp (b1 : Byte) : Statement (Instr.eorZp b1) := ⟨rfl, Nat.le_of_ble_eq_true rfl, rfl⟩
theorem lsrZp (b1 : Byte) : Statement (Instr.lsrZp b1) := ⟨rfl, Nat.le_of_ble_eq_true rfl, rfl⟩
theorem unmapped47 : Statement .unmapped47 := ⟨rfl, Nat.le_of_ble_eq_true rfl, rfl⟩
theorem pha : Statement .pha := ⟨rfl, Nat.le_of_ble_eq_true rfl, rfl⟩
theorem eorImm (b1 : Byte) : Statement (Instr.eorImm b1) := ⟨rfl, Nat.le_of_ble_eq_true rfl, rfl⟩
theorem lsrAcc : Statement .lsrAcc := ⟨rfl, Nat.le_of_ble_eq_true rfl, rfl⟩
theorem unmapped4B : Statement .unmapped4B := ⟨rfl, Nat.le_of_ble_eq_true rfl, rfl⟩
theorem jmpAbs (b1 b2 : Byte) : Statement (Instr.jmpAbs b1 b2) := ⟨rfl, Nat.le_of_ble_eq_true rfl, rfl⟩
theorem eorAbs (b1 b2 : Byte) : Statement (Instr.eorAbs b1 b2) := ⟨rfl, Nat.le_of_ble_eq_true rfl, rfl⟩
theorem lsrAbs (b1 b2 : Byte) : Statement (Instr.lsrAbs b1 b2) := ⟨rfl, Nat.le_of_ble_eq_true rfl, rfl⟩
theorem unmapped4F : Statement .unmapped4F := ⟨rfl, Nat.le_of_ble_eq_true rfl, rfl⟩
theorem bvc (b1 : Byte) : Statement (Instr.bvc b1) := ⟨rfl, Nat.le_of_ble_eq_true rfl, rfl⟩
theorem eorIny (b1 : Byte) : Statement (Instr.eorIny b1) := ⟨rfl, Nat.le_of_ble_eq_true rfl, rfl⟩
theorem unmapped52 : Statement .unmapped52 := ⟨rfl, Nat.le_of_ble_eq_true rfl, rfl⟩
theorem unmapped53 : Statement .unmapped53 := ⟨rfl, Nat.le_of_ble_eq_true rfl, rfl⟩
theorem unmapped54 : Statement .unmapped54 := ⟨rfl, Nat.le_of_ble_eq_true rfl, rfl⟩
theorem eorZpx (b1 : Byte) : Statement (Instr.eorZpx b1) := ⟨rfl, Nat.le_of_ble_eq_true rfl, rfl⟩
theorem lsrZpx (b1 : Byte) : Statement (Instr.lsrZpx b1) := ⟨rfl, Nat.le_of_ble_eq_true rfl, rfl⟩
theorem unmapped57 : Statement .unmapped57 := ⟨rfl, Nat.le_of_ble_eq_true rfl, rfl⟩
theorem cli : Statement .cli := ⟨rfl, Nat.le_of_ble_eq_true rfl, rfl⟩
theorem eorAby (b1 b2 : Byte) : Statement (Instr.eorAby b1 b2) := ⟨rfl, Nat.le_of_ble_eq_true rfl, rfl⟩
theorem unmapped5A : Statement .unmapped5A := ⟨rfl, Nat.le_of_ble_eq_true rfl, rfl⟩
theorem unmapped5B : Statement .unmapped5B := ⟨rfl, Nat.le_of_ble_eq_true rfl, rfl⟩
theorem unmapped5C : Statement .unmapped5C := ⟨rfl, Nat.le_of_ble_eq_true rfl, rfl⟩
theorem eorAbx (b1 b2 : Byte) : Statement (Instr.eorAbx b1 b2) := ⟨rfl, Nat.le_of_ble_eq_true rfl, rfl⟩
theorem lsrAbx (b1 b2 : Byte) : Statement (Instr.lsrAbx b1 b2) := ⟨rfl, Nat.le_of_ble_eq_true rfl, rfl⟩
theorem unmapped5F : Statement .unmapped5F := ⟨rfl, Nat.le_of_ble_eq_true rfl, rfl⟩
theorem rts : Statement .rts := ⟨rfl, Nat.le_of_ble_eq_true rfl, rfl⟩
theorem adcInx (b1 : Byte) : Statement (Instr.adcInx b1) := ⟨rfl, Nat.le_of_ble_eq_true rfl, rfl⟩
theorem unmapped62 : Statement .unmapped62 := ⟨rfl, Nat.le_of_ble_eq_true rfl, rfl⟩
theorem unmapped63 : Statement .unmapped63 := ⟨rfl, Nat.le_of_ble_eq_true rfl, rfl⟩
theorem unmapped64 : Statement .unmapped64 := ⟨rfl, Nat.le_of_ble_eq_true rfl, rfl⟩
theorem adcZp (b1 : Byte) : Statement (Instr.adcZp b1) := ⟨rfl, Nat.le_of_ble_eq_true rfl, rfl⟩
theorem rorZp (b1 : Byte) : Statement (Instr.rorZp b1) := ⟨rfl, Nat.le_of_ble_eq_true rfl, rfl⟩
theorem unmapped67 : Statement .unmapped67 := ⟨rfl, Nat.le_of_ble_eq_true rfl, rfl⟩
theorem pla : Statement .pla := ⟨rfl, Nat.le_of_ble_eq_true rfl, rfl⟩
theorem adcImm (b1 : Byte) : Statement (Instr.adcImm b1) := ⟨rfl, Nat.le_of_ble_eq_true rfl, rfl⟩
theorem rorAcc : Statement .rorAcc := ⟨rfl, Nat.le_of_ble_eq_true rfl, rfl⟩
theorem unmapped6B : Statement .unmapped6B := ⟨rfl, Nat.le_of_ble_eq_true rfl, rfl⟩
theorem jmpInd (b1 b2 : Byte) : Statement (Instr.jmpInd b1 b2) := ⟨rfl, Nat.le_of_ble_eq_true rfl, rfl⟩
theorem adcAbs (b1 b2 : Byte) : Statement (Instr.adcAbs b1 b2) := ⟨rfl, Nat.le_of_ble_eq_true rfl, rfl⟩
theorem rorAbs (b1 b2 : Byte) : Statement (Instr.rorAbs b1 b2) := ⟨rfl, Nat.le_of_ble_eq_true rfl, rfl⟩
theorem unmapped6F : Statement .unmapped6F := ⟨rfl, Nat.le_of_ble_eq_true rfl, rfl⟩
theorem bvs (b1 : Byte) : Statement (Instr.bvs b1) := ⟨rfl, Nat.le_of_ble_eq_true rfl, rfl⟩
theorem adcIny (b1 : Byte) : Statement (Instr.adcIny b1) := ⟨rfl, Nat.le_of_ble_eq_true rfl, rfl⟩
theorem unmapped72 : Statement .unmapped72 := ⟨rfl, Nat.le_of_ble_eq_true rfl, rfl⟩
theorem unmapped73 : Statement .unmapped73 := ⟨rfl, Nat.le_of_ble_eq_true rfl, rfl⟩
theorem unmapped74 : Statement .unmapped74 := ⟨rfl, Nat.le_of_ble_eq_true rfl, rfl⟩
theorem adcZpx (b1 : Byte) : Statement (Instr.adcZpx b1) := ⟨rfl, Nat.le_of_ble_eq_true rfl, rfl⟩
theorem rorZpx (b1 : Byte) : Statement (Instr.rorZpx b1) := ⟨rfl, Nat.le_of_ble_eq_true rfl, rfl⟩
theorem unmapped77 : Statement .unmapped77 := ⟨rfl, Nat.le_of_ble_eq_true rfl, rfl⟩
theorem sei : Statement .sei := ⟨rfl, Nat.le_of_ble_eq_true rfl, rfl⟩
theorem adcAby (b1 b2 : Byte) : Statement (Instr.adcAby b1 b2) := ⟨rfl, Nat.le_of_ble_eq_true rfl, rfl⟩
theorem unmapped7A : Statement .unmapped7A := ⟨rfl, Nat.le_of_ble_eq_true rfl, rfl⟩
theorem unmapped7B : Statement .unmapped7B := ⟨rfl, Nat.le_of_ble_eq_true rfl, rfl⟩
theorem unmapped7C : Statement .unmapped7C := ⟨rfl, Nat.le_of_ble_eq_true rfl, rfl⟩
theorem adcAbx (b1 b2 : Byte) : Statement (Instr.adcAbx b1 b2) := ⟨rfl, Nat.le_of_ble_eq_true rfl, rfl⟩
theorem rorAbx (b1 b2 : Byte) : Statement (Instr.rorAbx b1 b2) := ⟨rfl, Nat.le_of_ble_eq_true rfl, rfl⟩
theorem unmapped7F : Statement .unmapped7F := ⟨rfl, Nat.le_of_ble_eq_true rfl, rfl⟩
theorem unmapped80 : Statement .unmapped80 := ⟨rfl, Nat.le_of_ble_eq_true rfl, rfl⟩
theorem staInx (b1 : Byte) : Statement (Instr.staInx b1) := ⟨rfl, Nat.le_of_ble_eq_true rfl, rfl⟩
theorem unmapped82 : Statement .unmapped82 := ⟨rfl, Nat.le_of_ble_eq_true rfl, rfl⟩
theorem unmapped83 : Statement .unmapped83 := ⟨rfl, Nat.le_of_ble_eq_true rfl, rfl⟩
theorem styZp (b1 : Byte) : Statement (Instr.styZp b1) := ⟨rfl, Nat.le_of_ble_eq_true rfl, rfl⟩
theorem staZp (b1 : Byte) : Statement (Instr.staZp b1) := ⟨rfl, Nat.le_of_ble_eq_true rfl, rfl⟩
theorem stxZp (b1 : Byte) : Statement (Instr.stxZp b1) := ⟨rfl, Nat.le_of_ble_eq_true rfl, rfl⟩
theorem unmapped87 : Statement .unmapped87 := ⟨rfl, Nat.le_of_ble_eq_true rfl, rfl⟩
theorem dey : Statement .dey := ⟨rfl, Nat.le_of_ble_eq_true rfl, rfl⟩
theorem unmapped89 : Statement .unmapped89 := ⟨rfl, Nat.le_of_ble_eq_true rfl, rfl⟩
theorem txa : Statement .txa := ⟨rfl, Nat.le_of_ble_eq_true rfl, rfl⟩
theorem unmapped8B : Statement .unmapped8B := ⟨rfl, Nat.le_of_ble_eq_true rfl, rfl⟩
theorem styAbs (b1 b2 : Byte) : Statement (Instr.styAbs b1 b2) := ⟨rfl, Nat.le_of_ble_eq_true rfl, rfl⟩
theorem staAbs (b1 b2 : Byte) : Statement (Instr.staAbs b1 b2) := ⟨rfl, Nat.le_of_ble_eq_true rfl, rfl⟩
theorem stxAbs (b1 b2 : Byte) : Statement (Instr.stxAbs b1 b2) := ⟨rfl, Nat.le_of_ble_eq_true rfl, rfl⟩
theorem unmapped8F : Statement .unmapped8F := ⟨rfl, Nat.le_of_ble_eq_true rfl, rfl⟩
theorem bcc (b1 : Byte) : Statement (Instr.bcc b1) := ⟨rfl, Nat.le_of_ble_eq_true rfl, rfl⟩
theorem staIny (b1 : Byte) : Statement (Instr.staIny b1) := ⟨rfl, Nat.le_of_ble_eq_true rfl, rfl⟩
theorem unmapped92 : Statement .unmapped92 := ⟨rfl, Nat.le_of_ble_eq_true rfl, rfl⟩
theorem unmapped93 : Statement .unmapped93 := ⟨rfl, Nat.le_of_ble_eq_true rfl, rfl⟩
theorem styZpx (b1 : Byte) : Statement (Instr.styZpx b1) := ⟨rfl, Nat.le_of_ble_eq_true rfl, rfl⟩
theorem staZpx (b1 : Byte) : Statement (Instr.staZpx b1) := ⟨rfl, Nat.le_of_ble_eq_true rfl, rfl⟩
theorem stxZpy (b1 : Byte) : Statement (Instr.stxZpy b1) := ⟨rfl, Nat.le_of_ble_eq_true rfl, rfl⟩
theorem unmapped97 : Statement .unmapped97 := ⟨rfl, Nat.le_of_ble_eq_true rfl, rfl⟩
theorem tya : Statement .tya := ⟨rfl, Nat.le_of_ble_eq_true rfl, rfl⟩
theorem staAby (b1 b2 : Byte) : Statement (Instr.staAby b1 b2) := ⟨rfl, Nat.le_of_ble_eq_true rfl, rfl⟩
theorem txs : Statement .txs := ⟨rfl, Nat.le_of_ble_eq_true rfl, rfl⟩
theorem unmapped9B : Statement .unmapped9B := ⟨rfl, Nat.le_of_ble_eq_true rfl, rfl⟩
theorem unmapped9C : Statement .unmapped9C := ⟨rfl, Nat.le_of_ble_eq_true rfl, rfl⟩
theorem staAbx (b1 b2 : Byte) : Statement (Instr.staAbx b1 b2) := ⟨rfl, Nat.le_of_ble_eq_true rfl, rfl⟩
theorem unmapped9E : Statement .unmapped9E := ⟨rfl, Nat.le_of_ble_eq_true rfl, rfl⟩
theorem unmapped9F : Statement .unmapped9F := ⟨rfl, Nat.le_of_ble_eq_true rfl, rfl⟩
theorem ldyImm (b1 : Byte) : Statement (Instr.ldyImm b1) := ⟨rfl, Nat.le_of_ble_eq_true rfl, rfl⟩
theorem ldaInx (b1 : Byte) : Statement (Instr.ldaInx b1) := ⟨rfl, Nat.le_of_ble_eq_true rfl, rfl⟩
theorem ldxImm (b1 : Byte) : Statement (Instr.ldxImm b1) := ⟨rfl, Nat.le_of_ble_eq_true rfl, rfl⟩
theorem unmappedA3 : Statement .unmappedA3 := ⟨rfl, Nat.le_of_ble_eq_true rfl, rfl⟩
theorem ldyZp (b1 : Byte) : Statement (Instr.ldyZp b1) := ⟨rfl, Nat.le_of_ble_eq_true rfl, rfl⟩
theorem ldaZp (b1 : Byte) : Statement (Instr.ldaZp b1) := ⟨rfl, Nat.le_of_ble_eq_true rfl, rfl⟩
theorem ldxZp (b1 : Byte) : Statement (Instr.ldxZp b1) := ⟨rfl, Nat.le_of_ble_eq_true rfl, rfl⟩
theorem unmappedA7 : Statement .unmappedA7 := ⟨rfl, Nat.le_of_ble_eq_true rfl, rfl⟩
theorem tay : Statement .tay := ⟨rfl, Nat.le_of_ble_eq_true rfl, rfl⟩
theorem ldaImm (b1 : Byte) : Statement (Instr.ldaImm b1) := ⟨rfl, Nat.le_of_ble_eq_true rfl, rfl⟩
theorem tax : Statement .tax := ⟨rfl, Nat.le_of_ble_eq_true rfl, rfl⟩
theorem unmappedAB : Statement .unmappedAB := ⟨rfl, Nat.le_of_ble_eq_true rfl, rfl⟩
theorem ldyAbs (b1 b2 : Byte) : Statement (Instr.ldyAbs b1 b2) := ⟨rfl, Nat.le_of_ble_eq_true rfl, rfl⟩
theorem ldaAbs (b1 b2 : Byte) : Statement (Instr.ldaAbs b1 b2) := ⟨rfl, Nat.le_of_ble_eq_true rfl, rfl⟩
theorem ldxAbs (b1 b2 : Byte) : Statement (Instr.ldxAbs b1 b2) := ⟨rfl, Nat.le_of_ble_eq_true rfl, rfl⟩
theorem unmappedAF : Statement .unmappedAF := ⟨rfl, Nat.le_of_ble_eq_true rfl, rfl⟩
theorem bcs (b1 : Byte) : Statement (Instr.bcs b1) := ⟨rfl, Nat.le_of_ble_eq_true rfl, rfl⟩
theorem ldaIny (b1 : Byte) : Statement (Instr.ldaIny b1) := ⟨rfl, Nat.le_of_ble_eq_true rfl, rfl⟩
theorem unmappedB2 : Statement .unmappedB2 := ⟨rfl, Nat.le_of_ble_eq_true rfl, rfl⟩
theorem unmappedB3 : Statement .unmappedB3 := ⟨rfl, Nat.le_of_ble_eq_true rfl, rfl⟩
theorem ldyZpx (b1 : Byte) : Statement (Instr.ldyZpx b1) := ⟨rfl, Nat.le_of_ble_eq_true rfl, rfl⟩
theorem ldaZpx (b1 : Byte) : Statement (Instr.ldaZpx b1) := ⟨rfl, Nat.le_of_ble_eq_true rfl, rfl⟩
theorem ldxZpy (b1 : Byte) : Statement (Instr.ldxZpy b1) := ⟨rfl, Nat.le_of_ble_eq_true rfl, rfl⟩
theorem unmappedB7 : Statement .unmappedB7 := ⟨rfl, Nat.le_of_ble_eq_true rfl, rfl⟩
theorem clv : Statement .clv := ⟨rfl, Nat.le_of_ble_eq_true rfl, rfl⟩
theorem ldaAby (b1 b2 : Byte) : Statement (Instr.ldaAby b1 b2) := ⟨rfl, Nat.le_of_ble_eq_true rfl, rfl⟩
theorem tsx : Statement .tsx := ⟨rfl, Nat.le_of_ble_eq_true rfl, rfl⟩
theorem unmappedBB : Statement .unmappedBB := ⟨rfl, Nat.le_of_ble_eq_true rfl, rfl⟩
theorem ldyAbx (b1 b2 : Byte) : Statement (Instr.ldyAbx b1 b2) := ⟨rfl, Nat.le_of_ble_eq_true rfl, rfl⟩
theorem ldaAbx (b1 b2 : Byte) : Statement (Instr.ldaAbx b1 b2) := ⟨rfl, Nat.le_of_ble_eq_true rfl, rfl⟩
theorem ldxAby (b1 b2 : Byte) : Statement (Instr.ldxAby b1 b2) := ⟨rfl, Nat.le_of_ble_eq_true rfl, rfl⟩
theorem unmappedBF : Statement .unmappedBF := ⟨rfl, Nat.le_of_ble_eq_true rfl, rfl⟩
theorem cpyImm (b1 : Byte) : Statement (Instr.cpyImm b1) := ⟨rfl, Nat.le_of_ble_eq_true rfl, rfl⟩
theorem cmpInx (b1 : Byte) : Statement (Instr.cmpInx b1) := ⟨rfl, Nat.le_of_ble_eq_true rfl, rfl⟩
theorem unmappedC2 : Statement .unmappedC2 := ⟨rfl, Nat.le_of_ble_eq_true rfl, rfl⟩
theorem unmappedC3 : Statement .unmappedC3 := ⟨rfl, Nat.le_of_ble_eq_true rfl, rfl⟩
theorem cpyZp (b1 : Byte) : Statement (Instr.cpyZp b1) := ⟨rfl, Nat.le_of_ble_eq_true rfl, rfl⟩
theorem cmpZp (b1 : Byte) : Statement (Instr.cmpZp b1) := ⟨rfl, Nat.le_of_ble_eq_true rfl, rfl⟩
theorem decZp (b1 : Byte) : Statement (Instr.decZp b1) := ⟨rfl, Nat.le_of_ble_eq_true rfl, rfl⟩
theorem unmappedC7 : Statement .unmappedC7 := ⟨rfl, Nat.le_of_ble_eq_true rfl, rfl⟩
theorem iny : Statement .iny := ⟨rfl, Nat.le_of_ble_eq_true rfl, rfl⟩
theorem cmpImm (b1 : Byte) : Statement (Instr.cmpImm b1) := ⟨rfl, Nat.le_of_ble_eq_true rfl, rfl⟩
theorem dex : Statement .dex := ⟨rfl, Nat.le_of_ble_eq_true rfl, rfl⟩
theorem unmappedCB : Statement .unmappedCB := ⟨rfl, Nat.le_of_ble_eq_true rfl, rfl⟩
theorem cpyAbs (b1 b2 : Byte) : Statement (Instr.cpyAbs b1 b2) := ⟨rfl, Nat.le_of_ble_eq_true rfl, rfl⟩
theorem cmpAbs (b1 b2 : Byte) : Statement (Instr.cmpAbs b1 b2) := ⟨rfl, Nat.le_of_ble_eq_true rfl, rfl⟩
theorem decAbs (b1 b2 : Byte) : Statement (Instr.decAbs b1 b2) := ⟨rfl, Nat.le_of_ble_eq_true rfl, rfl⟩
theorem unmappedCF : Statement .unmappedCF := ⟨rfl, Nat.le_of_ble_eq_true rfl, rfl⟩
theorem bne (b1 : Byte) : Statement (Instr.bne b1) := ⟨rfl, Nat.le_of_ble_eq_true rfl, rfl⟩
theorem cmpIny (b1 : Byte) : Statement (Instr.cmpIny b1) := ⟨rfl, Nat.le_of_ble_eq_true rfl, rfl⟩
theorem unmappedD2 : Statement .unmappedD2 := ⟨rfl, Nat.le_of_ble_eq_true rfl, rfl⟩
theorem unmappedD3 : Statement .unmappedD3 := ⟨rfl, Nat.le_of_ble_eq_true rfl, rfl⟩
theorem unmappedD4 : Statement .unmappedD4 := ⟨rfl, Nat.le_of_ble_eq_true rfl, rfl⟩
theorem cmpZpx (b1 : Byte) : Statement (Instr.cmpZpx b1) := ⟨rfl, Nat.le_of_ble_eq_true rfl, rfl⟩
theorem decZpx (b1 : Byte) : Statement (Instr.decZpx b1) := ⟨rfl, Nat.le_of_ble_eq_true rfl, rfl⟩
theorem unmappedD7 : Statement .unmappedD7 := ⟨rfl, Nat.le_of_ble_eq_true rfl, rfl⟩
theorem cld : Statement .cld := ⟨rfl, Nat.le_of_ble_eq_true rfl, rfl⟩
theorem cmpAby (b1 b2 : Byte) : Statement (Instr.cmpAby b1 b2) := ⟨rfl, Nat.le_of_ble_eq_true rfl, rfl⟩
theorem unmappedDA : Statement .unmappedDA := ⟨rfl, Nat.le_of_ble_eq_true rfl, rfl⟩
theorem unmappedDB : Statement .unmappedDB := ⟨rfl, Nat.le_of_ble_eq_true rfl, rfl⟩
theorem unmappedDC : Statement .unmappedDC := ⟨rfl, Nat.le_of_ble_eq_true rfl, rfl⟩
theorem cmpAbx (b1 b2 : Byte) : Statement (Instr.cmpAbx b1 b2) := ⟨rfl, Nat.le_of_ble_eq_true rfl, rfl⟩
theorem decAbx (b1 b2 : Byte) : Statement (Instr.decAbx b1 b2) := ⟨rfl, Nat.le_of_ble_eq_true rfl, rfl⟩
theorem unmappedDF : Statement .unmappedDF := ⟨rfl, Nat.le_of_ble_eq_true rfl, rfl⟩
theorem cpxImm (b1 : Byte) : Statement (Instr.cpxImm b1) := ⟨rfl, Nat.le_of_ble_eq_true rfl, rfl⟩
theorem sbcInx (b1 : Byte) : Statement (Instr.sbcInx b1) := ⟨rfl, Nat.le_of_ble_eq_true rfl, rfl⟩
theorem unmappedE2 : Statement .unmappedE2 := ⟨rfl, Nat.le_of_ble_eq_true rfl, rfl⟩
theorem unmappedE3 : Statement .unmappedE3 := ⟨rfl, Nat.le_of_ble_eq_true rfl, rfl⟩
theorem cpxZp (b1 : Byte) : Statement (Instr.cpxZp b1) := ⟨rfl, Nat.le_of_ble_eq_true rfl, rfl⟩
theorem sbcZp (b1 : Byte) : Statement (Instr.sbcZp b1) := ⟨rfl, Nat.le_of_ble_eq_true rfl, rfl⟩
theorem incZp (b1 : Byte) : Statement (Instr.incZp b1) := ⟨rfl, Nat.le_of_ble_eq_true rfl, rfl⟩
theorem unmappedE7 : Statement .unmappedE7 := ⟨rfl, Nat.le_of_ble_eq_true rfl, rfl⟩
theorem inx : Statement .inx := ⟨rfl, Nat.le_of_ble_eq_true rfl, rfl⟩
theorem sbcImm (b1 : Byte) : Statement (Instr.sbcImm b1) := ⟨rfl, Nat.le_of_ble_eq_true rfl, rfl⟩
theorem nop : Statement .nop := ⟨rfl, Nat.le_of_ble_eq_true rfl, rfl⟩
theorem unmappedEB : Statement .unmappedEB := ⟨rfl, Nat.le_of_ble_eq_true rfl, rfl⟩
theorem cpxAbs (b1 b2 : Byte) : Statement (Instr.cpxAbs b1 b2) := ⟨rfl, Nat.le_of_ble_eq_true rfl, rfl⟩
theorem sbcAbs (b1 b2 : Byte) : Statement (Instr.sbcAbs b1 b2) := ⟨rfl, Nat.le_of_ble_eq_true rfl, rfl⟩
theorem incAbs (b1 b2 : Byte) : Statement (Instr.incAbs b1 b2) := ⟨rfl, Nat.le_of_ble_eq_true rfl, rfl⟩
theorem unmappedEF : Statement .unmappedEF := ⟨rfl, Nat.le_of_ble_eq_true rfl, rfl⟩
theorem beq (b1 : Byte) : Statement (Instr.beq b1) := ⟨rfl, Nat.le_of_ble_eq_true rfl, rfl⟩
theorem sbcIny (b1 : Byte) : Statement (Instr.sbcIny b1) := ⟨rfl, Nat.le_of_ble_eq_true rfl, rfl⟩
theorem unmappedF2 : Statement .unmappedF2 := ⟨rfl, Nat.le_of_ble_eq_true rfl, rfl⟩
theorem unmappedF3 : Statement .unmappedF3 := ⟨rfl, Nat.le_of_ble_eq_true rfl, rfl⟩
theorem unmappedF4 : Statement .unmappedF4 := ⟨rfl, Nat.le_of_ble_eq_true rfl, rfl⟩
theorem sbcZpx (b1 : Byte) : Statement (Instr.sbcZpx b1) := ⟨rfl, Nat.le_of_ble_eq_true rfl, rfl⟩
theorem incZpx (b1 : Byte) : Statement (Instr.incZpx b1) := ⟨rfl, Nat.le_of_ble_eq_true rfl, rfl⟩
theorem unmappedF7 : Statement .unmappedF7 := ⟨rfl, Nat.le_of_ble_eq_true rfl, rfl⟩
theorem sed : Statement .sed := ⟨rfl, Nat.le_of_ble_eq_true rfl, rfl⟩
theorem sbcAby (b1 b2 : Byte) : Statement (Instr.sbcAby b1 b2) := ⟨rfl, Nat.le_of_ble_eq_true rfl, rfl⟩
theorem unmappedFA : Statement .unmappedFA := ⟨rfl, Nat.le_of_ble_eq_true rfl, rfl⟩
theorem unmappedFB : Statement .unmappedFB := ⟨rfl, Nat.le_of_ble_eq_true rfl, rfl⟩
theorem unmappedFC : Statement .unmappedFC := ⟨rfl, Nat.le_of_ble_eq_true rfl, rfl⟩
theorem sbcAbx (b1 b2 : Byte) : Statement (Instr.sbcAbx b1 b2) := ⟨rfl, Nat.le_of_ble_eq_true rfl, rfl⟩
theorem incAbx (b1 b2 : Byte) : Statement (Instr.incAbx b1 b2) := ⟨rfl, Nat.le_of_ble_eq_true rfl, rfl⟩
theorem unmappedFF : Statement .unmappedFF := ⟨rfl, Nat.le_of_ble_eq_true rfl, rfl⟩
theorem reset : Statement .reset := ⟨rfl, Nat.le_of_ble_eq_true rfl, rfl⟩
theorem nmi : Statement .nmi := ⟨rfl, Nat.le_of_ble_eq_true rfl, rfl⟩
theorem irq : Statement .irq := ⟨rfl, Nat.le_of_ble_eq_true rfl, rfl⟩

end Sys2Proof.Laws.Layout
end

