-- ==== Sys2Proof/Laws/Platform.lean ====
section
/-! SUPPORT. What the guards of the instruction level say of a system (00_scope.md R8; 10_state.md R40; 40_sequencer.md R179;
70_reset_and_hazards.md R425). -/

namespace Sys2Proof.Machine

/-- What `portsOk` says of the CPU's ports. -/
theorem State.portsOk_iff {s : State} : s.portsOk = true ↔
    (s.buses.get s.cfg.ports.clk).kind = .dividedClock s.cfg.clkDiv ∧
      s.buses.outputOk s.cfg.ports.addr 16 = true ∧ s.buses.outputOk s.cfg.ports.data 8 = true ∧
      s.buses.outputOk s.cfg.ports.rw 1 = true ∧ s.buses.outputOk s.cfg.ports.sync 1 = true ∧
      s.cfg.ports.outputs.Nodup ∧ s.cfg.ports.res ∉ s.cfg.ports.outputs ∧ s.cfg.ports.nmi ∉ s.cfg.ports.outputs ∧
      s.cfg.ports.irq ∉ s.cfg.ports.outputs := by
  simp only [State.portsOk, Bool.and_eq_true, decide_eq_true_eq, List.all_cons, List.all_nil, Bool.and_true]

theorem Buses.outputOk_iff {bs : Buses} {id : BusId} {w : Nat} : bs.outputOk id w = true ↔
    bs.has id = true ∧ (bs.get id).kind = .standard ∧ (bs.get id).width = w := by
  simp only [Buses.outputOk, Bool.and_eq_true, decide_eq_true_eq]

/-- Every device stands exactly once in an allowed evaluation order (R70). -/
theorem Config.evalOrderOk_perm {cfg : Config} {l : List Bool} (h : cfg.evalOrderOk l = true) :
    cfg.evalOrder.Perm (.cpu :: (List.range l.length).map .mem) := by
  rw [Config.evalOrderOk, Bool.and_eq_true] at h
  exact List.isPerm_iff.mp h.1

/-- When the CPU addresses every memory device, an allowed order is the CPU and then the memory devices in any order (R425). -/
theorem Config.evalOrderOk_cons {cfg : Config} {l : List Bool} (h : cfg.evalOrderOk l = true) (hl : ∀ b ∈ l, b = true) :
    ∃ ms : List DeviceId, cfg.evalOrder = .cpu :: ms ∧ ms.Perm ((List.range l.length).map .mem) := by
  have hp := Config.evalOrderOk_perm h
  rw [Config.evalOrderOk, Bool.and_eq_true] at h
  cases ho : cfg.evalOrder with
  | nil => rw [ho] at hp; exact absurd hp.length_eq (by simp)
  | cons d ms =>
    rw [ho] at hp h
    cases d with
    | cpu => exact ⟨ms, rfl, hp.cons_inv⟩
    | mem k =>
      exfalso
      have hk : DeviceId.mem k ∈ DeviceId.cpu :: (List.range l.length).map .mem := hp.subset (List.mem_cons_self ..)
      have hk' : k < l.length := by simpa using hk
      have hb : l[k] = true := hl _ (List.getElem_mem hk')
      have h2 := h.2
      have hne : (DeviceId.mem k != DeviceId.cpu) = true := by simp
      rw [List.takeWhile_cons_of_pos (p := fun d => d != DeviceId.cpu) hne, List.all_cons, Bool.and_eq_true] at h2
      simp [List.getD_eq_getElem?_getD, List.getElem?_eq_getElem hk', hb] at h2

/-- What `platformOk` says (R8, R40, R80, R90, R425). -/
theorem State.platformOk_iff {s : State} : s.platformOk = true ↔
    s.cfg.clockOk = true ∧ s.evalOrderOk = true ∧ s.portsOk = true ∧
      ∀ d ∈ s.mems, d.wiredOk s.cfg.ports s.buses = true := by
  simp only [State.platformOk, Bool.and_eq_true, List.all_eq_true]

theorem MemDevice.wiredOk_iff {p : Ports} {bs : Buses} {d : MemDevice} : d.wiredOk p bs = true ↔
    d.sizeOk = true ∧ d.addrBus = p.addr ∧ d.dataBus = p.data ∧ (d.rwBus = none ∨ d.rwBus = some p.rw) ∧
      ((bs.get d.enBus).kind = .fixedLow ∨ (bs.get d.enBus).kind = .fixedHigh) := by
  simp only [MemDevice.wiredOk, Bool.and_eq_true, Bool.or_eq_true, decide_eq_true_eq]

/-- On a platform of the instruction level the CPU comes first, then the memory devices in any order (R425). -/
theorem State.platformOk_order {s : State} (h : s.platformOk = true) :
    ∃ ms : List DeviceId, s.cfg.evalOrder = .cpu :: ms ∧ ms.Perm ((List.range s.mems.length).map .mem) := by
  obtain ⟨-, ho, -, hw⟩ := State.platformOk_iff.mp h
  have := Config.evalOrderOk_cons ho (by
    simp only [List.mem_map, State.addresses]
    rintro b ⟨d, hd, rfl⟩
    exact decide_eq_true (MemDevice.wiredOk_iff.mp (hw d hd)).2.1)
  simpa using this

end Sys2Proof.Machine
end

