-- ==== Sys2Proof/Laws/Sequences.lean ====
section
/-! SUPPORT. What the sequences outside classes R, W and M do as a whole: implied, branch, stack, jump, exception entry and
return, RESET (40_sequencer.md R174; 44_control.md; 45_stack_flag_transfer.md; 46_system.md; 60_exceptions.md). -/

namespace Sys2Proof.Machine

/-- An implied action, or the placeholder: registers only (R174, R342). -/
theorem run_implied {act : Cpu → Cpu} {s : State} {r : Regs} (ops : List (Option Byte))
    (h : ∀ c : Cpu, c.regs = { s.regs with pc := s.cpu.pc + 1 } → (act c).regs = r ∧ (act c).ir = c.ir) :
    ∃ t, run (seqImplied act) ops s = .next t ∧ Retires s t 2 r ∧ KeepsMemory s t ∧
      busFrom 0 (seqImplied act) ops s = [busRead (s.cpu.pc + 1) ((ops.headD none).getD (s.peek (s.cpu.pc + 1)))] := by
  obtain ⟨l, t, e, c, m, g, y⟩ := runFrom_read (k := 0) (u := microZero) (us := [fun c => .retired (act c).retire])
    (ops := ops) (s := s) rfl rfl
  obtain ⟨h1, h2⟩ := h t.cpu (by simp [Cpu.regs, State.regs, c])
  refine ⟨t.withCpu { (act t.cpu).retire with cyc := 0 }, ?_, ?_, keepsMemory_of _ m, ?_⟩
  · rw [run, seqImplied, e]; exact runFrom_retired (c := (act t.cpu).retire) rfl
  · rw [← h1]; exact retires_of (by rw [h2]; simp [c]) g.one
  · exact y.trans (congrArg (List.cons _) (busFrom_retired (c := (act t.cpu).retire) rfl))

/-- Accumulator mode of class M (R173). -/
theorem run_accumulator {f : ModifyOp} {s : State} {r : Regs} (ops : List (Option Byte))
    (h : ∀ c : Cpu, c.regs = { s.regs with pc := s.cpu.pc + 1 } →
      Cpu.regs { (f c.a c).2 with a := (f c.a c).1 } = r ∧ (f c.a c).2.ir = c.ir) :
    ∃ t, run (seqAccumulator f) ops s = .next t ∧ Retires s t 2 r ∧ KeepsMemory s t ∧
      busFrom 0 (seqAccumulator f) ops s = [busRead (s.cpu.pc + 1) ((ops.headD none).getD (s.peek (s.cpu.pc + 1)))] :=
  run_implied (act := fun c => { (f c.a c).2 with a := (f c.a c).1 }) ops h

/-- The placeholder of an unmapped opcode (R342). -/
theorem run_unmapped (s : State) (ops : List (Option Byte)) :
    ∃ t, run seqUnmapped ops s = .next t ∧ Retires s t 1 { s.regs with pc := s.cpu.pc + 1 } ∧ KeepsMemory s t ∧
      busFrom 0 seqUnmapped ops s = [] :=
  ⟨s.withCpu { s.cpu.incPc.retire with cyc := 0 }, runFrom_retired (c := s.cpu.incPc.retire) rfl,
    retires_of (u := s) (c := s.cpu.incPc) rfl ⟨rfl, by simp⟩, keepsMemory_of _ (State.SameMemory.refl s),
    busFrom_retired (c := s.cpu.incPc.retire) rfl⟩

/-- Class BR (R270). -/
theorem run_branch {cond : Cpu → Bool} {s : State} (b1 : Byte) (hc : ∀ c : Cpu, c.p = s.cpu.p → cond c = cond s.cpu) :
    ∃ t, run (seqBranch cond) [some b1] s = .next t ∧
      Retires s t (if cond s.cpu then 3 else 2)
        { s.regs with pc := if cond s.cpu then s.cpu.pc + 2 + sext16 b1 else s.cpu.pc + 2 } ∧ KeepsMemory s t ∧
      busFrom 0 (seqBranch cond) [some b1] s =
        busRead (s.cpu.pc + 1) b1 :: (if cond s.cpu then [s.discardedRead] else []) := by
  obtain ⟨l, t, e, c, m, g, y⟩ := runFrom_read (k := 0) (u := microZero)
    (us := [ fun c => if cond c then .more { c.incPc with tmp := c.dbuf }.idle else .retired c.incPc.retire,
             fun c => .retired { c with pc := c.pc + sext16 c.tmp }.retire ])
    (ops := [some b1]) (s := s) rfl rfl
  have hcond : cond t.cpu = cond s.cpu := hc _ (by simp [c])
  cases hb : cond s.cpu with
  | false =>
    rw [hb] at hcond
    refine ⟨t.withCpu { t.cpu.incPc.retire with cyc := 0 }, ?_, ?_, keepsMemory_of _ m, ?_⟩
    rotate_left 2
    · refine y.trans (congrArg (List.cons _) ?_)
      exact busFrom_retired (c := t.cpu.incPc.retire) (by simp only [hcond]; rfl)
    · rw [run, seqBranch, e]; exact runFrom_retired (c := t.cpu.incPc.retire) (by simp only [hcond]; rfl)
    · have := retires_of (s := s) (u := t) (n := 2) (c := t.cpu.incPc) (by simp [c]) g.one
      simpa [Cpu.regs, State.regs, c] using this
  | true =>
    rw [hb] at hcond
    obtain ⟨l2, t2, e2, c2, m2, g2, y2⟩ := runFrom_read (k := 0 + 1)
      (u := fun c => if cond c then .more { c.incPc with tmp := c.dbuf }.idle else .retired c.incPc.retire)
      (us := [fun c => .retired { c with pc := c.pc + sext16 c.tmp }.retire])
      (c := { t.cpu.incPc with tmp := t.cpu.dbuf }.idle)
      (ops := []) (s := t) (by simp only [hcond]; rfl) rfl
    refine ⟨t2.withCpu { { t2.cpu with pc := t2.cpu.pc + sext16 t2.cpu.tmp }.retire with cyc := 0 }, ?_, ?_,
      keepsMemory_of _ (m.trans m2), ?_⟩
    rotate_left 2
    · refine y.trans (congrArg (List.cons _) (y2.trans (congrArg₂ List.cons ?_ (busFrom_retired rfl))))
      simp [State.discardedRead, busRead, c, m.peek]
    · rw [run, seqBranch, e]
      exact e2.trans (runFrom_retired rfl)
    · have := retires_of (s := s) (u := t2) (n := 3) (c := { t2.cpu with pc := t2.cpu.pc + sext16 t2.cpu.tmp })
        (by simp [c2, c]) (g.one.cycle g2)
      simpa [Cpu.regs, State.regs, c2, c] using this

/-- Class PUSH (R300, R301). -/
theorem run_push {cfg : Config} {v : Cpu → Byte} {s : State} (ops : List (Option Byte)) (hcfg : cfg = s.cfg)
    (hv : ∀ c : Cpu, c.regs = { s.regs with pc := s.cpu.pc + 1 } → v c = v s.cpu) :
    ∃ t, run (seqPush cfg v) ops s = .next t ∧
      Retires s t 3 { s.regs with pc := s.cpu.pc + 1, sp := s.cpu.sp - 1 } ∧
      Stores s t [(stackAddr s.cfg s.cpu.sp, v s.cpu)] ∧
      busFrom 0 (seqPush cfg v) ops s =
        [ busRead (s.cpu.pc + 1) ((ops.headD none).getD (s.peek (s.cpu.pc + 1))),
          busWrite (stackAddr s.cfg s.cpu.sp) (v s.cpu) ] := by
  subst hcfg
  obtain ⟨l, t, e, c, m, g, y⟩ := runFrom_read (k := 0) (u := microZero)
    (us := [fun c => .more (c.push s.cfg (v c)), microRetire]) (ops := ops) (s := s) rfl rfl
  obtain ⟨l2, d, t2, e2, c2, m2, g2, y2⟩ := runFrom_write (k := 0 + 1) (u := fun c => .more (c.push s.cfg (v c)))
    (us := [microRetire]) (ops := ops.tail) (s := t) rfl rfl
  have h1 : v t.cpu = v s.cpu := hv _ (by simp [Cpu.regs, State.regs, c])
  have h2 : t.cpu.sp = s.cpu.sp := by simp [c]
  simp only [h1, Cpu.push_paddr, Cpu.push_pdata, h2] at m2
  refine ⟨t2.withCpu { t2.cpu.retire with cyc := 0 }, ?_, ?_, stores_of _ ((m.poke _ _).trans m2), ?_⟩
  rotate_left 2
  · refine y.trans (congrArg (List.cons _) (y2.trans (congrArg₂ List.cons ?_ (busFrom_retired (c := t2.cpu.retire) rfl))))
    simp [busWrite, h1, h2]
  · rw [run, seqPush, e]; exact e2.trans (runFrom_retired (c := t2.cpu.retire) rfl)
  · have := retires_of (s := s) (u := t2) (n := 3) (c := t2.cpu) (by simp [c2, c]) (g.one.cycle g2)
    simpa [Cpu.regs, State.regs, c2, c] using this

/-- Class PULL (R302, R303). -/
theorem run_pull {cfg : Config} {take : Byte → Cpu → Cpu} {s : State} {r : Regs} (ops : List (Option Byte))
    (hcfg : cfg = s.cfg) (hops : ops = [])
    (ht : ∀ c : Cpu, c.regs = { s.regs with pc := s.cpu.pc + 1, sp := s.cpu.sp + 1 } →
      (take (s.peek (stackAddr s.cfg (s.cpu.sp + 1))) c).regs = r ∧
      (take (s.peek (stackAddr s.cfg (s.cpu.sp + 1))) c).ir = c.ir) :
    ∃ t, run (seqPull cfg take) ops s = .next t ∧ Retires s t 4 r ∧ KeepsMemory s t ∧
      busFrom 0 (seqPull cfg take) ops s =
        [ s.discardedRead, s.discardedRead,
          busRead (stackAddr s.cfg (s.cpu.sp + 1)) (s.peek (stackAddr s.cfg (s.cpu.sp + 1))) ] := by
  subst hcfg hops
  obtain ⟨l, t, e, c, m, g, y⟩ := runFrom_read (k := 0) (u := microZero)
    (us := [ fun c => .more c.idle, fun c => .more (c.pull s.cfg), fun c => .retired (take c.dbuf c).retire ])
    (ops := []) (s := s) rfl rfl
  obtain ⟨l2, t2, e2, c2, m2, g2, y2⟩ := runFrom_read (k := 0 + 1) (u := fun c => .more c.idle)
    (us := [ fun c => .more (c.pull s.cfg), fun c => .retired (take c.dbuf c).retire ])
    (ops := []) (s := t) rfl rfl
  obtain ⟨l3, t3, e3, c3, m3, g3, y3⟩ := runFrom_read (k := 0 + 1 + 1) (u := fun c => .more (c.pull s.cfg))
    (us := [ fun c => .retired (take c.dbuf c).retire ]) (ops := []) (s := t2) rfl rfl
  have hd : t3.cpu.dbuf = s.peek (stackAddr s.cfg (s.cpu.sp + 1)) := by
    simp [c3, c2, c, (m.trans m2).peek]
  obtain ⟨h1, h2⟩ := ht t3.cpu (by simp [Cpu.regs, State.regs, c3, c2, c])
  rw [← hd] at h1 h2
  refine ⟨t3.withCpu { (take t3.cpu.dbuf t3.cpu).retire with cyc := 0 }, ?_, ?_, keepsMemory_of _ ((m.trans m2).trans m3), ?_⟩
  rotate_left 2
  · refine y.trans (congrArg (List.cons _) (y2.trans (congrArg₂ List.cons ?_ (y3.trans (congrArg₂ List.cons ?_
      (busFrom_retired (c := (take t3.cpu.dbuf t3.cpu).retire) rfl))))))
    · simp [State.discardedRead, busRead, c, m.peek]
    · simp [busRead, c2, c, (m.trans m2).peek]
  · rw [run, seqPull, e]
    exact e2.trans (e3.trans (runFrom_retired (c := (take t3.cpu.dbuf t3.cpu).retire) rfl))
  · have := retires_of (s := s) (u := t3) (n := 4) (c := take t3.cpu.dbuf t3.cpu)
      (by rw [h2]; simp [c3, c2, c]) ((g.one.cycle g2).cycle g3)
    rwa [h1] at this

/-- JMP absolute (R279). -/
theorem run_jmpAbs (b1 b2 : Byte) (s : State) :
    ∃ t, execJmpAbs b1 b2 s = .next t ∧ Retires s t 3 { s.regs with pc := word b2 b1 } ∧ KeepsMemory s t ∧
      busFrom 0 seqJmpAbs [some b1, some b2] s = [busRead (s.cpu.pc + 1) b1, busRead (s.cpu.pc + 2) b2] := by
  obtain ⟨l, t, e, c, m, g, y⟩ := runFrom_read (k := 0) (u := microZero)
    (us := [formLow, fun c => .retired { c with pc := word c.dbuf c.tmp }.retire])
    (ops := [some b1, some b2]) (s := s) rfl rfl
  obtain ⟨l2, t2, e2, c2, m2, g2, y2⟩ := runFrom_read (k := 0 + 1) (u := formLow)
    (us := [fun c => .retired { c with pc := word c.dbuf c.tmp }.retire]) (ops := [some b2]) (s := t) rfl rfl
  refine ⟨t2.withCpu { { t2.cpu with pc := word t2.cpu.dbuf t2.cpu.tmp }.retire with cyc := 0 }, ?_, ?_,
    keepsMemory_of _ (m.trans m2), ?_⟩
  rotate_left 2
  · refine y.trans (congrArg (List.cons _) (y2.trans (congrArg₂ List.cons ?_ (busFrom_retired rfl))))
    simp [busRead, c]
  · rw [execJmpAbs, run, seqJmpAbs, e]; exact e2.trans (runFrom_retired rfl)
  · have := retires_of (s := s) (u := t2) (n := 3) (c := { t2.cpu with pc := word t2.cpu.dbuf t2.cpu.tmp })
      (by simp [c2, c]) (g.one.cycle g2)
    simpa [Cpu.regs, State.regs, c2, c] using this

/-- JMP indirect (R280): the pointer's high byte is read at the next address of the 16-bit space. -/
theorem run_jmpInd (b1 b2 : Byte) (s : State) :
    ∃ t, execJmpInd b1 b2 s = .next t ∧ Retires s t 5 { s.regs with pc := s.peek16 (word b2 b1) } ∧ KeepsMemory s t ∧
      busFrom 0 seqJmpInd [some b1, some b2] s =
        [ busRead (s.cpu.pc + 1) b1, busRead (s.cpu.pc + 2) b2,
          busRead (word b2 b1) (s.peek (word b2 b1)), busRead (word b2 b1 + 1) (s.peek (word b2 b1 + 1)) ] := by
  obtain ⟨l, t, e, c, m, g, y⟩ := runFrom_read (k := 0) (u := microZero)
    (us := [ formLow,
      fun c => .more (c.incPc.fetch (word c.dbuf c.tmp)),
      fun c => .more ({ c with tl := c.dbuf }.fetch (c.paddr + 1)),
      fun c => .retired { c with pc := word c.dbuf c.tl }.retire ])
    (ops := [some b1, some b2]) (s := s) rfl rfl
  obtain ⟨l2, t2, e2, c2, m2, g2, y2⟩ := runFrom_read (k := 0 + 1) (u := formLow)
    (us := [ fun c => .more (c.incPc.fetch (word c.dbuf c.tmp)),
      fun c => .more ({ c with tl := c.dbuf }.fetch (c.paddr + 1)),
      fun c => .retired { c with pc := word c.dbuf c.tl }.retire ]) (ops := [some b2]) (s := t) rfl rfl
  obtain ⟨l3, t3, e3, c3, m3, g3, y3⟩ := runFrom_read (k := 0 + 1 + 1)
    (u := fun c => .more (c.incPc.fetch (word c.dbuf c.tmp)))
    (us := [ fun c => .more ({ c with tl := c.dbuf }.fetch (c.paddr + 1)),
      fun c => .retired { c with pc := word c.dbuf c.tl }.retire ]) (ops := []) (s := t2) rfl rfl
  obtain ⟨l4, t4, e4, c4, m4, g4, y4⟩ := runFrom_read (k := 0 + 1 + 1 + 1)
    (u := fun c => .more ({ c with tl := c.dbuf }.fetch (c.paddr + 1)))
    (us := [ fun c => .retired { c with pc := word c.dbuf c.tl }.retire ]) (ops := []) (s := t3) rfl rfl
  have p2 : ∀ w, t2.peek w = s.peek w := (m.trans m2).peek
  have p3 : ∀ w, t3.peek w = s.peek w := ((m.trans m2).trans m3).peek
  refine ⟨t4.withCpu { { t4.cpu with pc := word t4.cpu.dbuf t4.cpu.tl }.retire with cyc := 0 }, ?_, ?_,
    keepsMemory_of _ (((m.trans m2).trans m3).trans m4), ?_⟩
  rotate_left 2
  · refine y.trans (congrArg (List.cons _) (y2.trans (congrArg₂ List.cons ?_ (y3.trans (congrArg₂ List.cons ?_
      (y4.trans (congrArg₂ List.cons ?_ (busFrom_retired rfl))))))))
    · simp [busRead, c]
    · simp [busRead, c2, c, p2]
    · simp [busRead, c3, c2, c, p3]
  · rw [execJmpInd, run, seqJmpInd, e]; exact e2.trans (e3.trans (e4.trans (runFrom_retired rfl)))
  · have := retires_of (s := s) (u := t4) (n := 5) (c := { t4.cpu with pc := word t4.cpu.dbuf t4.cpu.tl })
      (by simp [c4, c3, c2, c]) (((g.one.cycle g2).cycle g3).cycle g4)
    simpa [Cpu.regs, State.regs, c4, c3, c2, c, p2, p3, State.peek16] using this

/-- JSR (R281): the third byte is read after the two pushes. -/
theorem run_jsr (b1 b2 : Byte) (s : State) :
    ∃ t, execJsr b1 b2 s = .next t ∧
      Retires s t 6 { s.regs with
        sp := s.cpu.sp - 2
        pc := word ((s.jsrThirdByte b2).getD (s.afterJsrPushes.peek (s.cpu.pc + 2))) b1 } ∧
      Stores s t [(stackAddr s.cfg s.cpu.sp, hiByte (s.cpu.pc + 2)),
        (stackAddr s.cfg (s.cpu.sp - 1), loByte (s.cpu.pc + 2))] ∧
      busFrom 0 (seqJsr s.cfg) [some b1, none, none, none, s.jsrThirdByte b2] s =
        [ busRead (s.cpu.pc + 1) b1, s.discardedRead,
          busWrite (stackAddr s.cfg s.cpu.sp) (hiByte (s.cpu.pc + 2)),
          busWrite (stackAddr s.cfg (s.cpu.sp - 1)) (loByte (s.cpu.pc + 2)),
          busRead (s.cpu.pc + 2) ((s.jsrThirdByte b2).getD (s.afterJsrPushes.peek (s.cpu.pc + 2))) ] := by
  obtain ⟨l, t, e, c, m, g, y⟩ := runFrom_read (k := 0) (u := microZero)
    (us := [ fun c => .more { c.incPc with tmp := c.dbuf }.idle,
      fun c => .more (c.push s.cfg (hiByte c.pc)),
      fun c => .more (c.push s.cfg (loByte c.pc)),
      fun c => .more (c.fetch c.pc),
      fun c => .retired { c with pc := word c.dbuf c.tmp }.retire ])
    (ops := [some b1, none, none, none, s.jsrThirdByte b2]) (s := s) rfl rfl
  obtain ⟨l2, t2, e2, c2, m2, g2, y2⟩ := runFrom_read (k := 0 + 1)
    (u := fun c => .more { c.incPc with tmp := c.dbuf }.idle)
    (us := [ fun c => .more (c.push s.cfg (hiByte c.pc)),
      fun c => .more (c.push s.cfg (loByte c.pc)),
      fun c => .more (c.fetch c.pc),
      fun c => .retired { c with pc := word c.dbuf c.tmp }.retire ])
    (ops := [none, none, none, s.jsrThirdByte b2]) (s := t) rfl rfl
  obtain ⟨l3, d3, t3, e3, c3, m3, g3, y3⟩ := runFrom_write (k := 0 + 1 + 1)
    (u := fun c => .more (c.push s.cfg (hiByte c.pc)))
    (us := [ fun c => .more (c.push s.cfg (loByte c.pc)),
      fun c => .more (c.fetch c.pc),
      fun c => .retired { c with pc := word c.dbuf c.tmp }.retire ])
    (ops := [none, none, s.jsrThirdByte b2]) (s := t2) rfl rfl
  obtain ⟨l4, d4, t4, e4, c4, m4, g4, y4⟩ := runFrom_write (k := 0 + 1 + 1 + 1)
    (u := fun c => .more (c.push s.cfg (loByte c.pc)))
    (us := [ fun c => .more (c.fetch c.pc), fun c => .retired { c with pc := word c.dbuf c.tmp }.retire ])
    (ops := [none, s.jsrThirdByte b2]) (s := t3) rfl rfl
  obtain ⟨l5, t5, e5, c5, m5, g5, y5⟩ := runFrom_read (k := 0 + 1 + 1 + 1 + 1)
    (u := fun c => .more (c.fetch c.pc))
    (us := [ fun c => .retired { c with pc := word c.dbuf c.tmp }.retire ])
    (ops := [s.jsrThirdByte b2]) (s := t4) rfl rfl
  have a3 : stackAddr s.cfg t2.cpu.sp = stackAddr s.cfg s.cpu.sp := by simp [c2, c]
  have a4 : stackAddr s.cfg t3.cpu.sp = stackAddr s.cfg (s.cpu.sp - 1) := by simp [c3, c2, c]
  have v3 : t2.cpu.pc = s.cpu.pc + 2 := by simp [c2, c]
  have v4 : t3.cpu.pc = s.cpu.pc + 2 := by simp [c3, c2, c]
  simp only [Cpu.push_paddr, Cpu.push_pdata, a3, v3] at m3
  simp only [Cpu.push_paddr, Cpu.push_pdata, a4, v4] at m4
  have n4 : s.afterJsrPushes.SameMemory t4 :=
    ((((m.trans m2).poke _ _).trans m3).poke _ _).trans m4
  refine ⟨t5.withCpu { { t5.cpu with pc := word t5.cpu.dbuf t5.cpu.tmp }.retire with cyc := 0 }, ?_, ?_,
    stores_of _ (n4.trans m5), ?_⟩
  rotate_left 2
  · refine y.trans (congrArg (List.cons _) (y2.trans (congrArg₂ List.cons ?_ (y3.trans (congrArg₂ List.cons ?_
      (y4.trans (congrArg₂ List.cons ?_ (y5.trans (congrArg₂ List.cons ?_ (busFrom_retired rfl))))))))))
    · simp [State.discardedRead, busRead, c, m.peek]
    · simp [busWrite, a3, v3]
    · simp [busWrite, a4, v4]
    · simp [busRead, c4, v4, n4.peek]
  · rw [execJsr, run, seqJsr, e]
    exact e2.trans (e3.trans (e4.trans (e5.trans (runFrom_retired rfl))))
  · have := retires_of (s := s) (u := t5) (n := 6) (c := { t5.cpu with pc := word t5.cpu.dbuf t5.cpu.tmp })
      (by simp [c5, c4, c3, c2, c]) ((((g.one.cycle g2).cycle g3).cycle g4).cycle g5)
    simpa [Cpu.regs, State.regs, c5, c4, c3, c2, c, n4.peek] using this

/-- RTS (R282). -/
theorem run_rts (s : State) :
    ∃ t, execRts s = .next t ∧
      Retires s t 6 { s.regs with
        sp := s.cpu.sp + 2
        pc := word (s.peek (stackAddr s.cfg (s.cpu.sp + 2))) (s.peek (stackAddr s.cfg (s.cpu.sp + 1))) + 1 } ∧
      KeepsMemory s t ∧
      busFrom 0 (seqRts s.cfg) [] s =
        [ s.discardedRead, s.discardedRead,
          busRead (stackAddr s.cfg (s.cpu.sp + 1)) (s.peek (stackAddr s.cfg (s.cpu.sp + 1))),
          busRead (stackAddr s.cfg (s.cpu.sp + 2)) (s.peek (stackAddr s.cfg (s.cpu.sp + 2))),
          busRead (stackAddr s.cfg (s.cpu.sp + 2)) (s.peek (stackAddr s.cfg (s.cpu.sp + 2))) ] := by
  obtain ⟨l, t, e, c, m, g, y⟩ := runFrom_read (k := 0) (u := microZero)
    (us := [ fun c => .more c.idle, fun c => .more (c.pull s.cfg), fun c => .more ({ c with tl := c.dbuf }.pull s.cfg),
      fun c => .more { c with pc := word c.dbuf c.tl }.idle, fun c => .retired c.incPc.retire ])
    (ops := []) (s := s) rfl rfl
  obtain ⟨l2, t2, e2, c2, m2, g2, y2⟩ := runFrom_read (k := 0 + 1) (u := fun c => .more c.idle)
    (us := [ fun c => .more (c.pull s.cfg), fun c => .more ({ c with tl := c.dbuf }.pull s.cfg),
      fun c => .more { c with pc := word c.dbuf c.tl }.idle, fun c => .retired c.incPc.retire ])
    (ops := []) (s := t) rfl rfl
  obtain ⟨l3, t3, e3, c3, m3, g3, y3⟩ := runFrom_read (k := 0 + 1 + 1) (u := fun c => .more (c.pull s.cfg))
    (us := [ fun c => .more ({ c with tl := c.dbuf }.pull s.cfg),
      fun c => .more { c with pc := word c.dbuf c.tl }.idle, fun c => .retired c.incPc.retire ])
    (ops := []) (s := t2) rfl rfl
  obtain ⟨l4, t4, e4, c4, m4, g4, y4⟩ := runFrom_read (k := 0 + 1 + 1 + 1)
    (u := fun c => .more ({ c with tl := c.dbuf }.pull s.cfg))
    (us := [ fun c => .more { c with pc := word c.dbuf c.tl }.idle, fun c => .retired c.incPc.retire ])
    (ops := []) (s := t3) rfl rfl
  obtain ⟨l5, t5, e5, c5, m5, g5, y5⟩ := runFrom_read (k := 0 + 1 + 1 + 1 + 1)
    (u := fun c => .more { c with pc := word c.dbuf c.tl }.idle)
    (us := [ fun c => .retired c.incPc.retire ]) (ops := []) (s := t4) rfl rfl
  have p2 : ∀ w, t2.peek w = s.peek w := (m.trans m2).peek
  have p3 : ∀ w, t3.peek w = s.peek w := ((m.trans m2).trans m3).peek
  refine ⟨t5.withCpu { t5.cpu.incPc.retire with cyc := 0 }, ?_, ?_,
    keepsMemory_of _ ((((m.trans m2).trans m3).trans m4).trans m5), ?_⟩
  rotate_left 2
  · refine y.trans (congrArg (List.cons _) (y2.trans (congrArg₂ List.cons ?_ (y3.trans (congrArg₂ List.cons ?_
      (y4.trans (congrArg₂ List.cons ?_ (y5.trans (congrArg₂ List.cons ?_
        (busFrom_retired (c := t5.cpu.incPc.retire) rfl))))))))))
    · simp [State.discardedRead, busRead, c, m.peek]
    · simp [busRead, c2, c, p2]
    · simp [busRead, c3, c2, c, p3]
    · simp [busRead, c4, c3, c2, c, (((m.trans m2).trans m3).trans m4).peek]
  · rw [execRts, run, seqRts, e]
    exact e2.trans (e3.trans (e4.trans (e5.trans (runFrom_retired rfl))))
  · have := retires_of (s := s) (u := t5) (n := 6) (c := t5.cpu.incPc)
      (by simp [c5, c4, c3, c2, c]) ((((g.one.cycle g2).cycle g3).cycle g4).cycle g5)
    simpa [Cpu.regs, State.regs, c5, c4, c3, c2, c, p2, p3] using this

/-! ### Taking an exception and returning from it -/

/-- The status byte that an entry pushes. -/
def Entry.pushedStatus (e : Entry) (p : Byte) : Byte :=
  let p1 := if e.maskAtPush then setFlag .i true p else p
  if e.forcesBits then forceStatus p1 else p1

/-- The status byte that an entry leaves. -/
def Entry.newStatus (e : Entry) (p : Byte) : Byte :=
  let p1 := if e.maskAtPush then setFlag .i true p else p
  let p2 := if e.maskAfterPush then setFlag .i true p1 else p1
  if e.completesNmi then setFlag .i false p2 else p2

@[simp] theorem Entry.pushStatus_sp (e : Entry) (cfg : Config) (c : Cpu) : (e.pushStatus cfg c).sp = c.sp - 1 := by
  unfold Entry.pushStatus; cases e.maskAtPush <;> rfl
@[simp] theorem Entry.pushStatus_a (e : Entry) (cfg : Config) (c : Cpu) : (e.pushStatus cfg c).a = c.a := by
  unfold Entry.pushStatus; cases e.maskAtPush <;> rfl
@[simp] theorem Entry.pushStatus_x (e : Entry) (cfg : Config) (c : Cpu) : (e.pushStatus cfg c).x = c.x := by
  unfold Entry.pushStatus; cases e.maskAtPush <;> rfl
@[simp] theorem Entry.pushStatus_y (e : Entry) (cfg : Config) (c : Cpu) : (e.pushStatus cfg c).y = c.y := by
  unfold Entry.pushStatus; cases e.maskAtPush <;> rfl
@[simp] theorem Entry.pushStatus_pc (e : Entry) (cfg : Config) (c : Cpu) : (e.pushStatus cfg c).pc = c.pc := by
  unfold Entry.pushStatus; cases e.maskAtPush <;> rfl
@[simp] theorem Entry.pushStatus_ir (e : Entry) (cfg : Config) (c : Cpu) : (e.pushStatus cfg c).ir = c.ir := by
  unfold Entry.pushStatus; cases e.maskAtPush <;> rfl
@[simp] theorem Entry.pushStatus_p (e : Entry) (cfg : Config) (c : Cpu) :
    (e.pushStatus cfg c).p = if e.maskAtPush then setFlag .i true c.p else c.p := by
  unfold Entry.pushStatus; cases e.maskAtPush <;> rfl
@[simp] theorem Entry.pushStatus_prw (e : Entry) (cfg : Config) (c : Cpu) : (e.pushStatus cfg c).prw = false := by
  unfold Entry.pushStatus; cases e.maskAtPush <;> rfl
@[simp] theorem Entry.pushStatus_paddr (e : Entry) (cfg : Config) (c : Cpu) :
    (e.pushStatus cfg c).paddr = stackAddr cfg c.sp := by
  unfold Entry.pushStatus; cases e.maskAtPush <;> rfl
@[simp] theorem Entry.pushStatus_pdata (e : Entry) (cfg : Config) (c : Cpu) :
    (e.pushStatus cfg c).pdata = e.pushedStatus c.p := by
  unfold Entry.pushStatus Entry.pushedStatus; cases e.maskAtPush <;> rfl

@[simp] theorem Entry.pushStatus_psync (e : Entry) (cfg : Config) (c : Cpu) : (e.pushStatus cfg c).psync = false := by
  unfold Entry.pushStatus; cases e.maskAtPush <;> rfl

@[simp] theorem Entry.mask_a (e : Entry) (c : Cpu) : (e.mask c).a = c.a := by unfold Entry.mask; split <;> rfl
@[simp] theorem Entry.mask_x (e : Entry) (c : Cpu) : (e.mask c).x = c.x := by unfold Entry.mask; split <;> rfl
@[simp] theorem Entry.mask_y (e : Entry) (c : Cpu) : (e.mask c).y = c.y := by unfold Entry.mask; split <;> rfl
@[simp] theorem Entry.mask_sp (e : Entry) (c : Cpu) : (e.mask c).sp = c.sp := by unfold Entry.mask; split <;> rfl
@[simp] theorem Entry.mask_ir (e : Entry) (c : Cpu) : (e.mask c).ir = c.ir := by unfold Entry.mask; split <;> rfl
@[simp] theorem Entry.mask_pc (e : Entry) (c : Cpu) : (e.mask c).pc = c.pc := by unfold Entry.mask; split <;> rfl
@[simp] theorem Entry.mask_p (e : Entry) (c : Cpu) :
    (e.mask c).p = if e.maskAfterPush then setFlag .i true c.p else c.p := by unfold Entry.mask; split <;> rfl

@[simp] theorem Entry.complete_a (e : Entry) (c : Cpu) : (e.complete c).a = c.a := by unfold Entry.complete; split <;> rfl
@[simp] theorem Entry.complete_x (e : Entry) (c : Cpu) : (e.complete c).x = c.x := by unfold Entry.complete; split <;> rfl
@[simp] theorem Entry.complete_y (e : Entry) (c : Cpu) : (e.complete c).y = c.y := by unfold Entry.complete; split <;> rfl
@[simp] theorem Entry.complete_sp (e : Entry) (c : Cpu) : (e.complete c).sp = c.sp := by unfold Entry.complete; split <;> rfl
@[simp] theorem Entry.complete_ir (e : Entry) (c : Cpu) : (e.complete c).ir = c.ir := by unfold Entry.complete; split <;> rfl
@[simp] theorem Entry.complete_pc (e : Entry) (c : Cpu) : (e.complete c).pc = c.pc := by unfold Entry.complete; split <;> rfl
@[simp] theorem Entry.complete_p (e : Entry) (c : Cpu) :
    (e.complete c).p = if e.completesNmi then setFlag .i false c.p else c.p := by unfold Entry.complete; split <;> rfl
theorem Entry.complete_nmiPend (e : Entry) (c : Cpu) (h : e.completesNmi = true) : (e.complete c).nmiPend = false := by
  unfold Entry.complete; rw [if_pos h]

/-- An exception entry from the push of the low byte of `PC` on (R340, R366, R367). -/
theorem runFrom_entry_tail (k : Nat) (e : Entry) (s : State) :
    ∃ (t : State) (c : Cpu), runFrom k (entrySequence s.cfg e).tail [] s = .next (t.withCpu { c.retire with cyc := 0 }) ∧
      ((s.poke (stackAddr s.cfg s.cpu.sp) (loByte s.cpu.pc)).poke
        (stackAddr s.cfg (s.cpu.sp - 1)) (e.pushedStatus s.cpu.p)).SameMemory t ∧
      c.regs = { s.regs with
        sp := s.cpu.sp - 2
        p := e.newStatus s.cpu.p
        pc := ((s.poke (stackAddr s.cfg s.cpu.sp) (loByte s.cpu.pc)).poke
          (stackAddr s.cfg (s.cpu.sp - 1)) (e.pushedStatus s.cpu.p)).peek16 e.vector } ∧
      c.ir = s.cpu.ir ∧ (e.completesNmi = true → c.nmiPend = false) ∧ s.Spends t (2 * s.cfg.clkDiv * 4) ∧
      busFrom k (entrySequence s.cfg e).tail [] s =
        [ busWrite (stackAddr s.cfg s.cpu.sp) (loByte s.cpu.pc),
          busWrite (stackAddr s.cfg (s.cpu.sp - 1)) (e.pushedStatus s.cpu.p),
          busRead e.vector (((s.poke (stackAddr s.cfg s.cpu.sp) (loByte s.cpu.pc)).poke
            (stackAddr s.cfg (s.cpu.sp - 1)) (e.pushedStatus s.cpu.p)).peek e.vector),
          busRead (e.vector + 1) (((s.poke (stackAddr s.cfg s.cpu.sp) (loByte s.cpu.pc)).poke
            (stackAddr s.cfg (s.cpu.sp - 1)) (e.pushedStatus s.cpu.p)).peek (e.vector + 1)) ] := by
  obtain ⟨l2, d2, t2, e2, c2, m2, g2, y2⟩ := runFrom_write (k := k) (u := fun c => .more (c.push s.cfg (loByte c.pc)))
    (us := (entrySequence s.cfg e).tail.tail) (ops := []) (s := s) rfl rfl
  obtain ⟨l3, d3, t3, e3, c3, m3, g3, y3⟩ := runFrom_write (k := k + 1) (u := fun c => .more (e.pushStatus s.cfg c))
    (us := (entrySequence s.cfg e).tail.tail.tail) (ops := []) (s := t2) rfl (Entry.pushStatus_prw _ _ _)
  obtain ⟨l4, t4, e4, c4, m4, g4, y4⟩ := runFrom_read (k := k + 1 + 1) (u := fun c => .more ((e.mask c).fetch e.vector))
    (us := (entrySequence s.cfg e).tail.tail.tail.tail) (ops := []) (s := t3) rfl rfl
  obtain ⟨l5, t5, e5, c5, m5, g5, y5⟩ := runFrom_read (k := k + 1 + 1 + 1)
    (u := fun c => .more ({ c with tl := c.dbuf }.fetch (e.vector + 1)))
    (us := (entrySequence s.cfg e).tail.tail.tail.tail.tail) (ops := []) (s := t4) rfl rfl
  have a3 : stackAddr s.cfg t2.cpu.sp = stackAddr s.cfg (s.cpu.sp - 1) := by simp [c2]
  have v3 : t2.cpu.p = s.cpu.p := by simp [c2]
  simp only [Cpu.push_paddr, Cpu.push_pdata] at m2
  rw [Entry.pushStatus_paddr, Entry.pushStatus_pdata, a3, v3] at m3
  have n3 : ((s.poke (stackAddr s.cfg s.cpu.sp) (loByte s.cpu.pc)).poke
      (stackAddr s.cfg (s.cpu.sp - 1)) (e.pushedStatus s.cpu.p)).SameMemory t3 := (m2.poke _ _).trans m3
  refine ⟨t5, e.complete { t5.cpu with pc := word t5.cpu.dbuf t5.cpu.tl }, ?_, (n3.trans m4).trans m5, ?_, ?_, ?_, ?_, ?_⟩
  rotate_left 5
  · refine y2.trans (congrArg₂ List.cons ?_ (y3.trans (congrArg₂ List.cons ?_
      (y4.trans (congrArg₂ List.cons ?_ (y5.trans (congrArg₂ List.cons ?_ (busFrom_retired rfl))))))))
    · rfl
    · simp [busWrite, a3, v3, Entry.pushStatus_psync]
    · simp [busRead, n3.peek]
    · simp [busRead, (n3.trans m4).peek]
  · refine e2.trans (e3.trans (e4.trans (e5.trans ?_)))
    exact runFrom_retired rfl
  · simp [Cpu.regs, State.regs, c5, c4, c3, c2, Entry.newStatus, n3.peek, (n3.trans m4).peek, State.peek16]
  · simp [c5, c4, c3, c2]
  · exact fun h => Entry.complete_nmiPend _ _ h
  · have := ((g2.one.cycle g3).cycle g4).cycle g5
    simpa using this

/-- NMI and IRQ: a whole exception entry that starts with the push of the high byte of `PC` (R366, R367). -/
theorem run_entry (e : Entry) (s : State) :
    ∃ t, run (entrySequence s.cfg e) [] s = .next t ∧
      Retires s t 6 { s.regs with
        sp := s.cpu.sp - 3
        p := e.newStatus s.cpu.p
        pc := (s.pokes [(stackAddr s.cfg s.cpu.sp, hiByte s.cpu.pc), (stackAddr s.cfg (s.cpu.sp - 1), loByte s.cpu.pc),
          (stackAddr s.cfg (s.cpu.sp - 2), e.pushedStatus s.cpu.p)]).peek16 e.vector } ∧
      Stores s t [(stackAddr s.cfg s.cpu.sp, hiByte s.cpu.pc), (stackAddr s.cfg (s.cpu.sp - 1), loByte s.cpu.pc),
        (stackAddr s.cfg (s.cpu.sp - 2), e.pushedStatus s.cpu.p)] ∧
      (e.completesNmi = true → t.cpu.nmiPend = false) ∧
      busFrom 0 (entrySequence s.cfg e) [] s =
        [ busWrite (stackAddr s.cfg s.cpu.sp) (hiByte s.cpu.pc),
          busWrite (stackAddr s.cfg (s.cpu.sp - 1)) (loByte s.cpu.pc),
          busWrite (stackAddr s.cfg (s.cpu.sp - 2)) (e.pushedStatus s.cpu.p),
          busRead e.vector ((s.pokes [(stackAddr s.cfg s.cpu.sp, hiByte s.cpu.pc),
            (stackAddr s.cfg (s.cpu.sp - 1), loByte s.cpu.pc),
            (stackAddr s.cfg (s.cpu.sp - 2), e.pushedStatus s.cpu.p)]).peek e.vector),
          busRead (e.vector + 1) ((s.pokes [(stackAddr s.cfg s.cpu.sp, hiByte s.cpu.pc),
            (stackAddr s.cfg (s.cpu.sp - 1), loByte s.cpu.pc),
            (stackAddr s.cfg (s.cpu.sp - 2), e.pushedStatus s.cpu.p)]).peek (e.vector + 1)) ] := by
  obtain ⟨l, d, t, e1, c, m, g, y⟩ := runFrom_write (k := 0) (u := fun c => .more (c.push s.cfg (hiByte c.pc)))
    (us := (entrySequence s.cfg e).tail) (ops := []) (s := s) rfl rfl
  obtain ⟨u, c', e2, m2, hr, hir, hn, g2, yt⟩ := runFrom_entry_tail (0 + 1) e t
  simp only [Cpu.push_paddr, Cpu.push_pdata] at m
  rw [g.cfg] at e2 m2 hr g2 yt
  have hsp : t.cpu.sp = s.cpu.sp - 1 := by simp [c]
  have hpc : t.cpu.pc = s.cpu.pc := by simp [c]
  have hp : t.cpu.p = s.cpu.p := by simp [c]
  rw [hsp, hpc, hp] at m2 hr yt
  have n := (m.poke (stackAddr s.cfg (s.cpu.sp - 1)) (loByte s.cpu.pc)).poke
    (stackAddr s.cfg (s.cpu.sp - 1 - 1)) (e.pushedStatus s.cpu.p)
  rw [n.peek16] at hr
  rw [n.peek, n.peek] at yt
  have n2 := n.trans m2
  refine ⟨u.withCpu { c'.retire with cyc := 0 }, ?_, ?_, ?_, hn, ?_⟩
  rotate_left 3
  · refine y.trans ((congrArg (List.cons _) yt).trans ?_)
    simp [State.pokes, busWrite]
  · exact e1.trans e2
  · have := retires_of (s := s) (u := u) (n := 6) (c := c') (by rw [hir]; simp [c])
      (by have := g.trans g2; rwa [show 2 * s.cfg.clkDiv + 2 * s.cfg.clkDiv * 4 = 2 * s.cfg.clkDiv * (6 - 1) by omega] at this)
    rw [hr] at this
    simpa [State.regs, c, State.pokes] using this
  · refine stores_of _ ?_
    simpa [State.pokes] using n2

/-- BRK (R340): the entry of the software interrupt, two bytes on. -/
theorem run_brk (s : State) :
    ∃ t, execBrk s = .next t ∧
      Retires s t 7 { s.regs with
        sp := s.cpu.sp - 3
        p := (brkEntry s.cfg).newStatus s.cpu.p
        pc := (s.pokes [(stackAddr s.cfg s.cpu.sp, hiByte (s.cpu.pc + 2)),
          (stackAddr s.cfg (s.cpu.sp - 1), loByte (s.cpu.pc + 2)),
          (stackAddr s.cfg (s.cpu.sp - 2), (brkEntry s.cfg).pushedStatus s.cpu.p)]).peek16 s.cfg.irqVector } ∧
      Stores s t [(stackAddr s.cfg s.cpu.sp, hiByte (s.cpu.pc + 2)),
        (stackAddr s.cfg (s.cpu.sp - 1), loByte (s.cpu.pc + 2)),
        (stackAddr s.cfg (s.cpu.sp - 2), (brkEntry s.cfg).pushedStatus s.cpu.p)] ∧
      busFrom 0 (seqBrk s.cfg) [] s =
        [ s.discardedRead,
          busWrite (stackAddr s.cfg s.cpu.sp) (hiByte (s.cpu.pc + 2)),
          busWrite (stackAddr s.cfg (s.cpu.sp - 1)) (loByte (s.cpu.pc + 2)),
          busWrite (stackAddr s.cfg (s.cpu.sp - 2)) ((brkEntry s.cfg).pushedStatus s.cpu.p),
          busRead s.cfg.irqVector ((s.pokes [(stackAddr s.cfg s.cpu.sp, hiByte (s.cpu.pc + 2)),
            (stackAddr s.cfg (s.cpu.sp - 1), loByte (s.cpu.pc + 2)),
            (stackAddr s.cfg (s.cpu.sp - 2), (brkEntry s.cfg).pushedStatus s.cpu.p)]).peek s.cfg.irqVector),
          busRead (s.cfg.irqVector + 1) ((s.pokes [(stackAddr s.cfg s.cpu.sp, hiByte (s.cpu.pc + 2)),
            (stackAddr s.cfg (s.cpu.sp - 1), loByte (s.cpu.pc + 2)),
            (stackAddr s.cfg (s.cpu.sp - 2), (brkEntry s.cfg).pushedStatus s.cpu.p)]).peek (s.cfg.irqVector + 1)) ] := by
  obtain ⟨l0, t0, e0, c0, m0, g0, y0⟩ := runFrom_read (k := 0) (u := microZero)
    (us := (fun c => .more (c.incPc.push s.cfg (hiByte (c.pc + 1)))) :: (entrySequence s.cfg (brkEntry s.cfg)).tail)
    (ops := []) (s := s) rfl rfl
  obtain ⟨l, d, t, e1, c, m, g, y⟩ := runFrom_write (k := 0 + 1)
    (u := fun c => .more (c.incPc.push s.cfg (hiByte (c.pc + 1))))
    (us := (entrySequence s.cfg (brkEntry s.cfg)).tail) (ops := []) (s := t0) rfl rfl
  obtain ⟨u, c', e2, m2, hr, hir, -, g2, yt⟩ := runFrom_entry_tail (0 + 1 + 1) (brkEntry s.cfg) t
  have hcfg : t.cfg = s.cfg := g.cfg.trans g0.cfg
  have hsp0 : t0.cpu.sp = s.cpu.sp := by simp [c0]
  have hpc0 : t0.cpu.pc = s.cpu.pc + 1 := by simp [c0]
  simp only [Cpu.push_paddr, Cpu.push_pdata, Cpu.incPc_sp, hsp0, hpc0] at m
  rw [hcfg] at e2 m2 hr g2 yt
  have hsp : t.cpu.sp = s.cpu.sp - 1 := by simp [c, c0]
  have hpc : t.cpu.pc = s.cpu.pc + 2 := by simp [c, c0]
  have hp : t.cpu.p = s.cpu.p := by simp [c, c0]
  rw [hsp, hpc, hp] at m2 hr yt
  have n := (((m0.poke _ _).trans m).poke (stackAddr s.cfg (s.cpu.sp - 1)) (loByte (s.cpu.pc + 2))).poke
    (stackAddr s.cfg (s.cpu.sp - 1 - 1)) ((brkEntry s.cfg).pushedStatus s.cpu.p)
  rw [n.peek16] at hr
  rw [n.peek, n.peek] at yt
  have n2 := n.trans m2
  refine ⟨u.withCpu { c'.retire with cyc := 0 }, ?_, ?_, ?_, ?_⟩
  rotate_left 3
  · refine y0.trans (congrArg (List.cons _) (y.trans ((congrArg (List.cons _) yt).trans ?_)))
    simp [State.pokes, busWrite, hsp0, hpc0, brkEntry]
  · exact e0.trans (e1.trans e2)
  · have := retires_of (s := s) (u := u) (n := 7) (c := c') (by rw [hir]; simp [c, c0])
      (by have := (g0.one.cycle g).trans g2
          rwa [show 2 * s.cfg.clkDiv * (1 + 1) + 2 * s.cfg.clkDiv * 4 = 2 * s.cfg.clkDiv * (7 - 1) by omega] at this)
    rw [hr] at this
    simpa [State.regs, c, c0, State.pokes, brkEntry] using this
  · refine stores_of _ ?_
    simpa [State.pokes] using n2

/-- RTI (R341). -/
theorem run_rti (s : State) :
    ∃ t, execRti s = .next t ∧
      Retires s t 6 { s.regs with
        sp := s.cpu.sp + 3
        p := forceStatus (s.peek (stackAddr s.cfg (s.cpu.sp + 1)))
        pc := word (s.peek (stackAddr s.cfg (s.cpu.sp + 3))) (s.peek (stackAddr s.cfg (s.cpu.sp + 2))) } ∧
      KeepsMemory s t ∧
      busFrom 0 (seqRti s.cfg) [] s =
        [ s.discardedRead, s.discardedRead,
          busRead (stackAddr s.cfg (s.cpu.sp + 1)) (s.peek (stackAddr s.cfg (s.cpu.sp + 1))),
          busRead (stackAddr s.cfg (s.cpu.sp + 2)) (s.peek (stackAddr s.cfg (s.cpu.sp + 2))),
          busRead (stackAddr s.cfg (s.cpu.sp + 3)) (s.peek (stackAddr s.cfg (s.cpu.sp + 3))) ] := by
  obtain ⟨l, t, e, c, m, g, y⟩ := runFrom_read (k := 0) (u := microZero)
    (us := (returnSequence s.cfg).tail) (ops := []) (s := s) rfl rfl
  obtain ⟨l2, t2, e2, c2, m2, g2, y2⟩ := runFrom_read (k := 0 + 1) (u := fun c => .more c.idle)
    (us := (returnSequence s.cfg).tail.tail) (ops := []) (s := t) rfl rfl
  obtain ⟨l3, t3, e3, c3, m3, g3, y3⟩ := runFrom_read (k := 0 + 1 + 1) (u := fun c => .more (c.pull s.cfg))
    (us := (returnSequence s.cfg).tail.tail.tail) (ops := []) (s := t2) rfl rfl
  obtain ⟨l4, t4, e4, c4, m4, g4, y4⟩ := runFrom_read (k := 0 + 1 + 1 + 1)
    (u := fun c => .more ({ c with p := forceStatus c.dbuf }.pull s.cfg))
    (us := (returnSequence s.cfg).tail.tail.tail.tail) (ops := []) (s := t3) rfl rfl
  obtain ⟨l5, t5, e5, c5, m5, g5, y5⟩ := runFrom_read (k := 0 + 1 + 1 + 1 + 1)
    (u := fun c => .more ({ c with tl := c.dbuf }.pull s.cfg))
    (us := (returnSequence s.cfg).tail.tail.tail.tail.tail) (ops := []) (s := t4) rfl rfl
  have p2 : ∀ w, t2.peek w = s.peek w := (m.trans m2).peek
  have p3 : ∀ w, t3.peek w = s.peek w := ((m.trans m2).trans m3).peek
  have p4 : ∀ w, t4.peek w = s.peek w := (((m.trans m2).trans m3).trans m4).peek
  refine ⟨t5.withCpu { { t5.cpu with pc := word t5.cpu.dbuf t5.cpu.tl }.retire with cyc := 0 }, ?_, ?_,
    keepsMemory_of _ ((((m.trans m2).trans m3).trans m4).trans m5), ?_⟩
  rotate_left 2
  · refine y.trans (congrArg (List.cons _) (y2.trans (congrArg₂ List.cons ?_ (y3.trans (congrArg₂ List.cons ?_
      (y4.trans (congrArg₂ List.cons ?_ (y5.trans (congrArg₂ List.cons ?_ (busFrom_retired rfl))))))))))
    · simp [State.discardedRead, busRead, c, m.peek]
    · simp [busRead, c2, c, p2]
    · simp [busRead, c3, c2, c, p3]
    · simp [busRead, c4, c3, c2, c, p4]
  · exact e.trans (e2.trans (e3.trans (e4.trans (e5.trans (runFrom_retired rfl)))))
  · have := retires_of (s := s) (u := t5) (n := 6) (c := { t5.cpu with pc := word t5.cpu.dbuf t5.cpu.tl })
      (by simp [c5, c4, c3, c2, c]) ((((g.one.cycle g2).cycle g3).cycle g4).cycle g5)
    simpa [Cpu.regs, State.regs, c5, c4, c3, c2, c, p2, p3, p4] using this

/-- RESET (R365). -/
theorem run_reset (s : State) :
    ∃ t, execReset s = .next t ∧
      Retires s t 3 { a := 0, x := 0, y := 0, sp := 0xFF, p := 0x30, pc := s.peek16 s.cfg.resetVector } ∧
      KeepsMemory s t ∧ t.cpu.resPend = false ∧
      busFrom 0 (seqReset s.cfg) [] s =
        [ busRead s.cfg.resetVector (s.peek s.cfg.resetVector),
          busRead (s.cfg.resetVector + 1) (s.peek (s.cfg.resetVector + 1)) ] := by
  obtain ⟨l, t, e, c, m, g, y⟩ := runFrom_read (k := 0)
    (u := fun c => .more ({ c with sp := 0xFF#8, p := 0x30#8, a := 0#8, x := 0#8, y := 0#8 }.fetch s.cfg.resetVector))
    (us := (resetSequence s.cfg).tail) (ops := []) (s := s) rfl rfl
  obtain ⟨l2, t2, e2, c2, m2, g2, y2⟩ := runFrom_read (k := 0 + 1)
    (u := fun c => .more ({ c with tl := c.dbuf }.fetch (s.cfg.resetVector + 1)))
    (us := (resetSequence s.cfg).tail.tail) (ops := []) (s := t) rfl rfl
  refine ⟨t2.withCpu { { t2.cpu with pc := word t2.cpu.dbuf t2.cpu.tl, resPend := false }.retire with cyc := 0 }, ?_, ?_,
    keepsMemory_of _ (m.trans m2), rfl, ?_⟩
  rotate_left 2
  · refine y.trans (congrArg (List.cons _) (y2.trans (congrArg₂ List.cons ?_ (busFrom_retired rfl))))
    simp [busRead, m.peek]
  · exact e.trans (e2.trans (runFrom_retired rfl))
  · have := retires_of (s := s) (u := t2) (n := 3)
      (c := { t2.cpu with pc := word t2.cpu.dbuf t2.cpu.tl, resPend := false })
      (by simp [c2, c]) (g.one.cycle g2)
    simpa [Cpu.regs, State.regs, c2, c, m.peek, State.peek16] using this

end Sys2Proof.Machine
end

