-- ==== Sys2Proof/Tests/Slice0.lean ====
section
/-! SUPPORT. Tests of one step or one operation each, their expected results taken from 95_test_vectors.md or worked out by
hand from the rule named; and, for the statements that have hypotheses, a state that meets them all. -/

namespace Sys2Proof.Tests

open Sys2Proof.Machine

/-! ### Well-formedness refuses what it should -/

theorem test_reset_is_no_encoding : Instr.wellFormed .reset = false := by decide

theorem test_nmi_is_no_encoding : Instr.wellFormed .nmi = false := by decide

theorem test_irq_is_no_encoding : Instr.wellFormed .irq = false := by decide

theorem test_instruction_well_formed : Instr.wellFormed (.ldaImm 0x80) = true := by decide

theorem test_clock_divisor_zero_refused : Config.clockOk { Config.default with clkDiv := 0 } = false := by decide

theorem test_stack_base_in_page_refused : Config.stackPageOk { Config.default with stackBase := 0x0180 } = false := by decide

theorem test_cpu_last_refused :
    Config.evalOrderOk { Config.default with evalOrder := [.mem 0, .cpu] } [true] = false := by decide

theorem test_missing_device_refused : Config.evalOrderOk Config.default [true, true] = false := by decide

theorem test_device_twice_refused :
    Config.evalOrderOk { Config.default with evalOrder := [.cpu, .mem 0, .mem 0] } [true] = false := by decide

/-- R8: the CPU before the memory devices it addresses; among them, and for others, any order. -/
theorem test_memories_in_any_order :
    Config.evalOrderOk { Config.default with evalOrder := [.mem 2, .cpu, .mem 1, .mem 0] } [true, true, false] = true := by
  decide

theorem test_default_parameters_well_formed : Config.wellFormed Config.default [true] = true := by decide

theorem test_memory_width_refused :
    MemDevice.sizeOk { MemDevice.new 16 9 .addr .data .gnd none with cells := [] } = false := by decide

theorem test_memory_out_of_order_refused : Memory.wf [(2, 1#8), (1, 1#8)] = false := by decide

theorem test_memory_listed_zero_refused : Memory.wf [(1, 0#8)] = false := by decide

theorem test_array_out_of_size_refused :
    MemDevice.arrayOk { MemDevice.new 4 8 .addr .data .gnd none with cells := [(16, 1#8)] } = false := by decide

theorem test_bus_value_out_of_width_refused : Bus.wf { Bus.new .standard 8 with value := 256 } = false := by decide

theorem test_clock_count_out_of_range_refused : Bus.wf { Bus.new (.dividedClock 2) 1 with div := 2 } = false := by decide

theorem test_wide_fixed_source_refused : Bus.wf (Bus.new .fixedHigh 8) = false := by decide

/-! ### Decoding, word by word (the map of R123; operand bytes follow the opcode, low byte first, R120) -/

theorem test_decode_lda_inx : (decode [0b10100001#8, 0x20]).toOption = some (.ldaInx 0x20, []) := by decide

theorem test_decode_sty_zpx : (decode [0b10010100#8, 0xF0, 0xAA]).toOption = some (.styZpx 0xF0, [0xAA]) := by decide

theorem test_decode_ldx_aby : (decode [0b10111110#8, 0x34, 0x12]).toOption = some (.ldxAby 0x34 0x12, []) := by decide

theorem test_decode_sbc_iny : (decode [0b11110001#8, 0x10]).toOption = some (.sbcIny 0x10, []) := by decide

theorem test_decode_bit_abs : (decode [0b00101100#8, 0x00, 0x03]).toOption = some (.bitAbs 0x00 0x03, []) := by decide

theorem test_decode_cpx_zp : (decode [0b11100100#8, 0x05]).toOption = some (.cpxZp 0x05, []) := by decide

theorem test_decode_ror_zpx : (decode [0b01110110#8, 0x10]).toOption = some (.rorZpx 0x10, []) := by decide

theorem test_decode_asl_acc : (decode [0b00001010#8]).toOption = some (.aslAcc, []) := by decide

theorem test_decode_dec_abx : (decode [0b11011110#8, 0x00, 0x03]).toOption = some (.decAbx 0x00 0x03, []) := by decide

theorem test_decode_dey : (decode [0b10001000#8]).toOption = some (.dey, []) := by decide

theorem test_decode_bvs : (decode [0b01110000#8, 0xFE]).toOption = some (.bvs 0xFE, []) := by decide

theorem test_decode_jsr : (decode [0b00100000#8, 0x00, 0x03]).toOption = some (.jsr 0x00 0x03, []) := by decide

theorem test_decode_rts : (decode [0b01100000#8]).toOption = some (.rts, []) := by decide

theorem test_decode_plp : (decode [0b00101000#8]).toOption = some (.plp, []) := by decide

theorem test_decode_sed : (decode [0b11111000#8]).toOption = some (.sed, []) := by decide

theorem test_decode_tsx : (decode [0b10111010#8]).toOption = some (.tsx, []) := by decide

theorem test_decode_nop : (decode [0b11101010#8]).toOption = some (.nop, []) := by decide

theorem test_decode_brk : (decode [0b00000000#8, 0xEA]).toOption = some (.brk, [0xEA]) := by decide

theorem test_decode_unmapped : (decode [0b10000000#8]).toOption = some (.unmapped80, []) := by decide

/-- The name by which the decoder rejects a byte string. -/
def rejection (bytes : List Byte) : Option DecodeError :=
  match decode bytes with
  | .error e => some e
  | .ok _ => none

theorem test_decode_empty_refused : rejection [] = some .noOpcode := by decide

theorem test_decode_short_refused : rejection [0xAD, 0x00] = some (.missingOperand 0xAD) := by decide

theorem test_selector_values :
    [decodeSelector Config.default 0x100 0 0, decodeSelector Config.default 0x101 0 0,
      decodeSelector Config.default 0x102 0 0, decodeSelector Config.default 0x103 0 0] =
      [some .reset, some .nmi, some .irq, none] := by decide

theorem test_optable_difference_applies :
    decodeSelector { Config.default with optable := [(0xEA, 0x02)] } 0x0EA 0 0 = some .unmapped02 := by decide

theorem test_table_words :
    [decodeTableWord 8 0xA9, decodeTableWord 16 0x50A9, decodeTableWord 16 0x101, decodeTableWord 24 0x03008D] =
      [some (.ldaImm 0), some (.ldaImm 0x50), some .nmi, some (.staAbs 0x00 0x03)] := by decide

/-! ### Instruction vectors: one step from the start state of 95_test_vectors.md -/

/-- The registers after RESET with the instruction at 0200. -/
def r0 : Regs := { a := 0x00, x := 0x00, y := 0x00, sp := 0xFF, p := 0x30, pc := 0x0200 }

/-- The state after RESET with other registers, code at `PC` and bytes in memory. -/
def start (r : Regs) (code : List Byte) (data : List (Word × Byte)) : State :=
  let c := { State.reset.cpu with a := r.a, x := r.x, y := r.y, sp := r.sp, p := r.p, pc := r.pc, paddr := r.pc }
  data.foldl (fun s e => s.loadBytes e.1 [e.2]) ({ State.reset with cpu := c }.loadBytes r.pc code)

/-- The registers and some bytes of memory after a step that goes on. -/
def sees (o : Host.Outcome State Fault Refusal) (addrs : List Word) : Option (Regs × List Byte) :=
  match o with
  | .next t => some (t.regs, addrs.map t.peek)
  | _ => none

/-- The reason of a step that is refused. -/
def refusal (o : Host.Outcome State Fault Refusal) : Option Refusal :=
  match o with
  | .refused r => some r
  | _ => none

/-- The bus transactions of the instruction that the next step runs, after its opcode fetch. -/
def bus (s : State) : Option (List Transaction) :=
  s.cycleZero.selected.map fun i => transactions i s.cycleZero

/-- Vector L1 of 95_test_vectors.md. -/
theorem test_lda_imm :
    sees (step (start r0 [0xA9, 0x80] [])) [] =
      some ({ r0 with a := 0x80, p := 0xB0, pc := 0x0202 }, []) := by decide

/-- Vector L2 of 95_test_vectors.md. -/
theorem test_ldx_imm :
    sees (step (start { r0 with x := 0x05 } [0xA2, 0x00] [])) [] =
      some ({ r0 with p := 0x32, pc := 0x0202 }, []) := by decide

/-- Vector L3 of 95_test_vectors.md. -/
theorem test_ldy_imm :
    sees (step (start r0 [0xA0, 0x7F] [])) [] =
      some ({ r0 with y := 0x7F, pc := 0x0202 }, []) := by decide

/-- Vector L4 of 95_test_vectors.md. -/
theorem test_lda_zpx_wraps :
    sees (step (start { r0 with x := 0x02 } [0xB5, 0xFF] [(0x0001, 0x77)])) [] =
      some ({ r0 with a := 0x77, x := 0x02, pc := 0x0202 }, []) := by decide

/-- Vector L5 of 95_test_vectors.md. -/
theorem test_lda_abx_wraps :
    sees (step (start { r0 with x := 0x01 } [0xBD, 0xFF, 0xFF] [(0x0000, 0x66)])) [] =
      some ({ r0 with a := 0x66, x := 0x01, pc := 0x0203 }, []) := by decide

/-- Vector L6 of 95_test_vectors.md. -/
theorem test_lda_aby_wraps :
    sees (step (start { r0 with y := 0xFF } [0xB9, 0xFF, 0xFF] [(0x00FE, 0x22)])) [] =
      some ({ r0 with a := 0x22, y := 0xFF, pc := 0x0203 }, []) := by decide

/-- Vector L7 of 95_test_vectors.md. -/
theorem test_lda_inx :
    sees (step (start { r0 with x := 0xFF } [0xA1, 0x20] [(0x001F, 0x00), (0x0020, 0x03), (0x0300, 0x99)])) [] =
      some ({ r0 with a := 0x99, x := 0xFF, p := 0xB0, pc := 0x0202 }, []) := by decide

/-- Vector L8 of 95_test_vectors.md. -/
theorem test_lda_inx_pointer_wraps :
    sees (step (start r0 [0xA1, 0xFF] [(0x00FF, 0x10), (0x0000, 0x03), (0x0310, 0x5A)])) [] =
      some ({ r0 with a := 0x5A, pc := 0x0202 }, []) := by decide

/-- Vector L9 of 95_test_vectors.md. -/
theorem test_lda_iny :
    sees (step (start { r0 with y := 0xFF } [0xB1, 0x10] [(0x0010, 0xFF), (0x0011, 0x03), (0x04FE, 0x11)])) [] =
      some ({ r0 with a := 0x11, y := 0xFF, pc := 0x0202 }, []) := by decide

/-- Vector L10 of 95_test_vectors.md. -/
theorem test_lda_iny_pointer_wraps :
    sees (step (start { r0 with y := 0x01 } [0xB1, 0xFF] [(0x00FF, 0x00), (0x0000, 0x03), (0x0301, 0x55)])) [] =
      some ({ r0 with a := 0x55, y := 0x01, pc := 0x0202 }, []) := by decide

/-- Vector L11 of 95_test_vectors.md. -/
theorem test_ldx_zpy_wraps :
    sees (step (start { r0 with y := 0x80 } [0xB6, 0x80] [(0x0000, 0x44)])) [] =
      some ({ r0 with x := 0x44, y := 0x80, pc := 0x0202 }, []) := by decide

/-- Vector L12 of 95_test_vectors.md. -/
theorem test_sta_zp :
    sees (step (start { r0 with a := 0xA0 } [0x85, 0x10] [])) [0x0010] =
      some ({ r0 with a := 0xA0, pc := 0x0202 }, [0xA0]) := by decide

/-- Vector L13 of 95_test_vectors.md. -/
theorem test_stx_abs :
    sees (step (start { r0 with x := 0x05 } [0x8E, 0x00, 0x03] [])) [0x0300] =
      some ({ r0 with x := 0x05, pc := 0x0203 }, [0x05]) := by decide

/-- Vector L14 of 95_test_vectors.md. -/
theorem test_sty_zpx_wraps :
    sees (step (start { r0 with x := 0x20, y := 0x09 } [0x94, 0xF0] [])) [0x0010] =
      some ({ r0 with x := 0x20, y := 0x09, pc := 0x0202 }, [0x09]) := by decide

/-- Vector L15 of 95_test_vectors.md. -/
theorem test_sta_abx :
    sees (step (start { r0 with a := 0x79, x := 0xFF } [0x9D, 0x00, 0x03] [])) [0x03FF] =
      some ({ r0 with a := 0x79, x := 0xFF, pc := 0x0203 }, [0x79]) := by decide

/-- Vector L16 of 95_test_vectors.md. -/
theorem test_sta_iny :
    sees (step (start { r0 with a := 0x77, y := 0x02 } [0x91, 0x10] [(0x0010, 0x00), (0x0011, 0x03)])) [0x0302] =
      some ({ r0 with a := 0x77, y := 0x02, pc := 0x0202 }, [0x77]) := by decide

/-- Vector L17 of 95_test_vectors.md. -/
theorem test_sta_inx :
    sees (step (start { r0 with a := 0x78, x := 0x04 } [0x81, 0x10] [(0x0014, 0x05), (0x0015, 0x03)])) [0x0305] =
      some ({ r0 with a := 0x78, x := 0x04, pc := 0x0202 }, [0x78]) := by decide

/-- Vector A2, S5 of 95_test_vectors.md. -/
theorem test_adc_overflows :
    sees (step (start { r0 with a := 0x50 } [0x69, 0x50] [])) [] =
      some ({ r0 with a := 0xA0, p := 0xF0, pc := 0x0202 }, []) := by decide

/-- Vector A5 of 95_test_vectors.md. -/
theorem test_adc_carries_and_overflows :
    sees (step (start { r0 with a := 0x80 } [0x69, 0x80] [])) [] =
      some ({ r0 with p := 0x73, pc := 0x0202 }, []) := by decide

/-- Vector A14 of 95_test_vectors.md. -/
theorem test_adc_zp_carry_in :
    sees (step (start { r0 with a := 0x01, p := 0x31 } [0x65, 0x10] [(0x0010, 0x01)])) [] =
      some ({ r0 with a := 0x03, pc := 0x0202 }, []) := by decide

/-- Vector A8 of 95_test_vectors.md. -/
theorem test_sbc_overflows :
    sees (step (start { r0 with a := 0x50, p := 0x31 } [0xE9, 0xB0] [])) [] =
      some ({ r0 with a := 0xA0, p := 0xF0, pc := 0x0202 }, []) := by decide

/-- Vector A10 of 95_test_vectors.md. -/
theorem test_sbc_borrow :
    sees (step (start r0 [0xE9, 0x00] [])) [] =
      some ({ r0 with a := 0xFF, p := 0xB0, pc := 0x0202 }, []) := by decide

/-- Vector A15 of 95_test_vectors.md. -/
theorem test_sbc_abs :
    sees (step (start { r0 with a := 0x05 } [0xED, 0x00, 0x03] [(0x0300, 0x05)])) [] =
      some ({ r0 with a := 0xFF, p := 0xB0, pc := 0x0203 }, []) := by decide

/-- Vector A16 of 95_test_vectors.md. -/
theorem test_and_imm :
    sees (step (start { r0 with a := 0xF0 } [0x29, 0x0F] [])) [] =
      some ({ r0 with p := 0x32, pc := 0x0202 }, []) := by decide

/-- Vector A17 of 95_test_vectors.md. -/
theorem test_ora_imm :
    sees (step (start { r0 with a := 0x01 } [0x09, 0x80] [])) [] =
      some ({ r0 with a := 0x81, p := 0xB0, pc := 0x0202 }, []) := by decide

/-- Vector A18 of 95_test_vectors.md. -/
theorem test_eor_imm :
    sees (step (start { r0 with a := 0x0F } [0x49, 0xFF] [])) [] =
      some ({ r0 with a := 0xF0, p := 0xB0, pc := 0x0202 }, []) := by decide

/-- Vector A22 of 95_test_vectors.md. -/
theorem test_cmp_keeps_v :
    sees (step (start { r0 with a := 0x10, p := 0x70 } [0xC9, 0x10] [])) [] =
      some ({ r0 with a := 0x10, p := 0x73, pc := 0x0202 }, []) := by decide

/-- Vector A20 of 95_test_vectors.md. -/
theorem test_cmp_less :
    sees (step (start r0 [0xC9, 0x01] [])) [] =
      some ({ r0 with p := 0xB0, pc := 0x0202 }, []) := by decide

/-- Vector A23 of 95_test_vectors.md. -/
theorem test_cpx_imm :
    sees (step (start { r0 with x := 0x03 } [0xE0, 0x05] [])) [] =
      some ({ r0 with x := 0x03, p := 0xB0, pc := 0x0202 }, []) := by decide

/-- Vector A24 of 95_test_vectors.md. -/
theorem test_cpy_imm :
    sees (step (start r0 [0xC0, 0x00] [])) [] =
      some ({ r0 with p := 0x33, pc := 0x0202 }, []) := by decide

/-- Vector A25 of 95_test_vectors.md. -/
theorem test_cmp_iny :
    sees (step (start { r0 with a := 0x40, y := 0x01 } [0xD1, 0x10] [(0x0010, 0x00), (0x0011, 0x03), (0x0301, 0x41)])) [] =
      some ({ r0 with a := 0x40, y := 0x01, p := 0xB0, pc := 0x0202 }, []) := by decide

/-- Vector A26 of 95_test_vectors.md. -/
theorem test_bit_zp :
    sees (step (start { r0 with a := 0x01 } [0x24, 0x10] [(0x0010, 0xC0)])) [] =
      some ({ r0 with a := 0x01, p := 0xF2, pc := 0x0202 }, []) := by decide

/-- Vector A27 of 95_test_vectors.md. -/
theorem test_bit_abs :
    sees (step (start { r0 with a := 0xFF, p := 0xF0 } [0x2C, 0x00, 0x03] [(0x0300, 0x3F)])) [] =
      some ({ r0 with a := 0xFF, pc := 0x0203 }, []) := by decide

/-- Vector H1 of 95_test_vectors.md. -/
theorem test_asl_acc :
    sees (step (start { r0 with a := 0x41 } [0x0A] [])) [] =
      some ({ r0 with a := 0x82, p := 0xB0, pc := 0x0201 }, []) := by decide

/-- Vector H2 of 95_test_vectors.md. -/
theorem test_asl_acc_carry :
    sees (step (start { r0 with a := 0x80 } [0x0A] [])) [] =
      some ({ r0 with p := 0x33, pc := 0x0201 }, []) := by decide

/-- Vector H3 of 95_test_vectors.md. -/
theorem test_lsr_zp :
    sees (step (start r0 [0x46, 0x10] [(0x0010, 0x03)])) [0x0010] =
      some ({ r0 with p := 0x31, pc := 0x0202 }, [0x01]) := by decide

/-- Vector H4 of 95_test_vectors.md. -/
theorem test_rol_acc :
    sees (step (start { r0 with a := 0x80, p := 0x31 } [0x2A] [])) [] =
      some ({ r0 with a := 0x01, p := 0x31, pc := 0x0201 }, []) := by decide

/-- Vector H5 of 95_test_vectors.md. -/
theorem test_ror_acc :
    sees (step (start { r0 with a := 0x02, p := 0x31 } [0x6A] [])) [] =
      some ({ r0 with a := 0x81, p := 0xB0, pc := 0x0201 }, []) := by decide

/-- Vector H6 of 95_test_vectors.md. -/
theorem test_ror_acc_zero :
    sees (step (start { r0 with a := 0x01 } [0x6A] [])) [] =
      some ({ r0 with p := 0x33, pc := 0x0201 }, []) := by decide

/-- Vector H8 of 95_test_vectors.md. -/
theorem test_asl_abx :
    sees (step (start { r0 with x := 0x01 } [0x1E, 0x00, 0x03] [(0x0301, 0xC0)])) [0x0301] =
      some ({ r0 with x := 0x01, p := 0xB1, pc := 0x0203 }, [0x80]) := by decide

/-- Vector H9 of 95_test_vectors.md. -/
theorem test_ror_zpx :
    sees (step (start { r0 with x := 0xF8, p := 0x31 } [0x76, 0x10] [(0x0008, 0x01)])) [0x0008] =
      some ({ r0 with x := 0xF8, p := 0xB1, pc := 0x0202 }, [0x80]) := by decide

/-- Vector H10 of 95_test_vectors.md. -/
theorem test_inc_zp :
    sees (step (start r0 [0xE6, 0x20] [(0x0020, 0xFF)])) [0x0020] =
      some ({ r0 with p := 0x32, pc := 0x0202 }, [0x00]) := by decide

/-- Vector H11 of 95_test_vectors.md. -/
theorem test_inc_abx :
    sees (step (start { r0 with x := 0x01 } [0xFE, 0xFF, 0x02] [(0x0300, 0x7F)])) [0x0300] =
      some ({ r0 with x := 0x01, p := 0xB0, pc := 0x0203 }, [0x80]) := by decide

/-- Vector H12 of 95_test_vectors.md. -/
theorem test_dec_abs :
    sees (step (start r0 [0xCE, 0x00, 0x03] [(0x0300, 0x01)])) [0x0300] =
      some ({ r0 with p := 0x32, pc := 0x0203 }, [0x00]) := by decide

/-- Vector H13 of 95_test_vectors.md. -/
theorem test_inx :
    sees (step (start { r0 with x := 0x7F } [0xE8] [])) [] =
      some ({ r0 with x := 0x80, p := 0xB0, pc := 0x0201 }, []) := by decide

/-- Vector H14 of 95_test_vectors.md. -/
theorem test_iny :
    sees (step (start { r0 with y := 0xFF } [0xC8] [])) [] =
      some ({ r0 with p := 0x32, pc := 0x0201 }, []) := by decide

/-- Vector H15 of 95_test_vectors.md. -/
theorem test_dex :
    sees (step (start { r0 with x := 0x01 } [0xCA] [])) [] =
      some ({ r0 with p := 0x32, pc := 0x0201 }, []) := by decide

/-- Vector H16 of 95_test_vectors.md. -/
theorem test_dey :
    sees (step (start r0 [0x88] [])) [] =
      some ({ r0 with y := 0xFF, p := 0xB0, pc := 0x0201 }, []) := by decide

/-- Vector C1, S6 of 95_test_vectors.md. -/
theorem test_bpl_not_taken :
    sees (step (start { r0 with p := 0xB0 } [0x10, 0x02] [])) [] =
      some ({ r0 with p := 0xB0, pc := 0x0202 }, []) := by decide

/-- Vector C2, S6 of 95_test_vectors.md. -/
theorem test_bpl_taken :
    sees (step (start r0 [0x10, 0x02] [])) [] =
      some ({ r0 with pc := 0x0204 }, []) := by decide

/-- Vector C3 of 95_test_vectors.md. -/
theorem test_bmi_back :
    sees (step (start { r0 with p := 0xB0, pc := 0x0210 } [0x30, 0xFC] [])) [] =
      some ({ r0 with p := 0xB0, pc := 0x020E }, []) := by decide

/-- Vector C4 of 95_test_vectors.md. -/
theorem test_bne_back :
    sees (step (start { r0 with pc := 0x0208 } [0xD0, 0xFB] [])) [] =
      some ({ r0 with pc := 0x0205 }, []) := by decide

/-- Vector C5 of 95_test_vectors.md. -/
theorem test_beq_forward :
    sees (step (start { r0 with p := 0x32 } [0xF0, 0x7F] [])) [] =
      some ({ r0 with p := 0x32, pc := 0x0281 }, []) := by decide

/-- Vector C6 of 95_test_vectors.md. -/
theorem test_bcs_back :
    sees (step (start { r0 with p := 0x31 } [0xB0, 0x80] [])) [] =
      some ({ r0 with p := 0x31, pc := 0x0182 }, []) := by decide

/-- Vector C7 of 95_test_vectors.md. -/
theorem test_bvs_to_itself :
    sees (step (start { r0 with p := 0x70 } [0x70, 0xFE] [])) [] =
      some ({ r0 with p := 0x70 }, []) := by decide

/-- Vector C8 of 95_test_vectors.md. -/
theorem test_bcc_wraps :
    sees (step (start { r0 with pc := 0xFFF0 } [0x90, 0x10] [])) [] =
      some ({ r0 with pc := 0x0002 }, []) := by decide

/-- Vector C9 of 95_test_vectors.md. -/
theorem test_bvc_taken :
    sees (step (start r0 [0x50, 0x00] [])) [] =
      some ({ r0 with pc := 0x0202 }, []) := by decide

/-- Vector C9 of 95_test_vectors.md. -/
theorem test_bvc_not_taken :
    sees (step (start { r0 with p := 0x70 } [0x50, 0x00] [])) [] =
      some ({ r0 with p := 0x70, pc := 0x0202 }, []) := by decide

/-- Vector C10 of 95_test_vectors.md. -/
theorem test_jmp :
    sees (step (start r0 [0x4C, 0x07, 0x02] [])) [] =
      some ({ r0 with pc := 0x0207 }, []) := by decide

/-- Vector C11 of 95_test_vectors.md. -/
theorem test_jmp_indirect :
    sees (step (start r0 [0x6C, 0x00, 0x03] [(0x0300, 0x34), (0x0301, 0x12)])) [] =
      some ({ r0 with pc := 0x1234 }, []) := by decide

/-- Vector C12 of 95_test_vectors.md. -/
theorem test_jmp_indirect_page_end :
    sees (step (start r0 [0x6C, 0xFF, 0x02] [(0x02FF, 0x34), (0x0300, 0x12)])) [] =
      some ({ r0 with pc := 0x1234 }, []) := by decide

/-- Vector C13 of 95_test_vectors.md. -/
theorem test_jsr :
    sees (step (start r0 [0x20, 0x00, 0x03] [])) [0x01FF, 0x01FE] =
      some ({ r0 with sp := 0xFD, pc := 0x0300 }, [0x02, 0x02]) := by decide

/-- Vector C14 of 95_test_vectors.md. -/
theorem test_jsr_stack_wraps :
    sees (step (start { r0 with sp := 0x00 } [0x20, 0x00, 0x03] [])) [0x0100, 0x01FF] =
      some ({ r0 with sp := 0xFE, pc := 0x0300 }, [0x02, 0x02]) := by decide

/-- Vector C15 of 95_test_vectors.md. -/
theorem test_rts :
    sees (step (start { r0 with sp := 0xFD, pc := 0x0300 } [0x60] [(0x01FE, 0x02), (0x01FF, 0x02)])) [] =
      some ({ r0 with pc := 0x0203 }, []) := by decide

/-- Vector K1 of 95_test_vectors.md. -/
theorem test_pha :
    sees (step (start { r0 with a := 0x42 } [0x48] [])) [0x01FF] =
      some ({ r0 with a := 0x42, sp := 0xFE, pc := 0x0201 }, [0x42]) := by decide

/-- Vector K2 of 95_test_vectors.md. -/
theorem test_pha_stack_wraps :
    sees (step (start { r0 with a := 0x11, sp := 0x00 } [0x48] [])) [0x0100] =
      some ({ r0 with a := 0x11, pc := 0x0201 }, [0x11]) := by decide

/-- Vector K3 of 95_test_vectors.md. -/
theorem test_php :
    sees (step (start r0 [0x08] [])) [0x01FF] =
      some ({ r0 with sp := 0xFE, pc := 0x0201 }, [0x30]) := by decide

/-- Vector K5 of 95_test_vectors.md. -/
theorem test_pla :
    sees (step (start { r0 with sp := 0xFE } [0x68] [(0x01FF, 0x42)])) [] =
      some ({ r0 with a := 0x42, pc := 0x0201 }, []) := by decide

/-- Vector K6 of 95_test_vectors.md. -/
theorem test_pla_stack_wraps :
    sees (step (start r0 [0x68] [(0x0100, 0x80)])) [] =
      some ({ r0 with a := 0x80, sp := 0x00, p := 0xB0, pc := 0x0201 }, []) := by decide

/-- Vector K7 of 95_test_vectors.md. -/
theorem test_plp :
    sees (step (start { r0 with sp := 0xFE } [0x28] [(0x01FF, 0x03)])) [] =
      some ({ r0 with p := 0x33, pc := 0x0201 }, []) := by decide

/-- Vector K8 of 95_test_vectors.md. -/
theorem test_plp_forces_bits :
    sees (step (start { r0 with sp := 0xFE, p := 0xFF } [0x28] [(0x01FF, 0x00)])) [] =
      some ({ r0 with pc := 0x0201 }, []) := by decide

/-- Vector K9 of 95_test_vectors.md. -/
theorem test_clc :
    sees (step (start { r0 with p := 0x31 } [0x18] [])) [] =
      some ({ r0 with pc := 0x0201 }, []) := by decide

/-- Vector K9 of 95_test_vectors.md. -/
theorem test_sec :
    sees (step (start r0 [0x38] [])) [] =
      some ({ r0 with p := 0x31, pc := 0x0201 }, []) := by decide

/-- Vector K9 of 95_test_vectors.md. -/
theorem test_cli :
    sees (step (start { r0 with p := 0x34 } [0x58] [])) [] =
      some ({ r0 with pc := 0x0201 }, []) := by decide

/-- Vector K9 of 95_test_vectors.md. -/
theorem test_sei :
    sees (step (start r0 [0x78] [])) [] =
      some ({ r0 with p := 0x34, pc := 0x0201 }, []) := by decide

/-- Vector K9 of 95_test_vectors.md. -/
theorem test_clv :
    sees (step (start { r0 with p := 0xF0 } [0xB8] [])) [] =
      some ({ r0 with p := 0xB0, pc := 0x0201 }, []) := by decide

/-- Vector K9 of 95_test_vectors.md. -/
theorem test_cld :
    sees (step (start { r0 with p := 0x38 } [0xD8] [])) [] =
      some ({ r0 with pc := 0x0201 }, []) := by decide

/-- Vector K9 of 95_test_vectors.md. -/
theorem test_sed :
    sees (step (start r0 [0xF8] [])) [] =
      some ({ r0 with p := 0x38, pc := 0x0201 }, []) := by decide

/-- Vector K10 of 95_test_vectors.md. -/
theorem test_tax :
    sees (step (start { r0 with x := 0x05 } [0xAA] [])) [] =
      some ({ r0 with p := 0x32, pc := 0x0201 }, []) := by decide

/-- Vector K11 of 95_test_vectors.md. -/
theorem test_tay :
    sees (step (start { r0 with a := 0x90 } [0xA8] [])) [] =
      some ({ r0 with a := 0x90, y := 0x90, p := 0xB0, pc := 0x0201 }, []) := by decide

/-- Vector K12 of 95_test_vectors.md. -/
theorem test_tsx :
    sees (step (start r0 [0xBA] [])) [] =
      some ({ r0 with x := 0xFF, p := 0xB0, pc := 0x0201 }, []) := by decide

/-- Vector K13 of 95_test_vectors.md. -/
theorem test_txa :
    sees (step (start { r0 with x := 0x05 } [0x8A] [])) [] =
      some ({ r0 with a := 0x05, x := 0x05, pc := 0x0201 }, []) := by decide

/-- Vector K14 of 95_test_vectors.md. -/
theorem test_txs :
    sees (step (start { r0 with x := 0x80 } [0x9A] [])) [] =
      some ({ r0 with x := 0x80, sp := 0x80, pc := 0x0201 }, []) := by decide

/-- Vector K15 of 95_test_vectors.md. -/
theorem test_tya :
    sees (step (start { r0 with a := 0x03 } [0x98] [])) [] =
      some ({ r0 with p := 0x32, pc := 0x0201 }, []) := by decide

/-- Vector K16 of 95_test_vectors.md. -/
theorem test_nop :
    sees (step (start r0 [0xEA] [])) [] =
      some ({ r0 with pc := 0x0201 }, []) := by decide

/-- Vector Y1 of 95_test_vectors.md. -/
theorem test_brk :
    sees (step (start r0 [0x00, 0xEA] [(0xFFFE, 0x00), (0xFFFF, 0x04)])) [0x01FF, 0x01FE, 0x01FD] =
      some ({ r0 with sp := 0xFC, p := 0x34, pc := 0x0400 }, [0x02, 0x02, 0x30]) := by decide

/-- Vector Y2 of 95_test_vectors.md. -/
theorem test_brk_flags :
    sees (step (start { r0 with p := 0xF3 } [0x00, 0x00] [(0xFFFE, 0x00), (0xFFFF, 0x04)])) [0x01FD] =
      some ({ r0 with sp := 0xFC, p := 0xF7, pc := 0x0400 }, [0xF3]) := by decide

/-- Vector Y3 of 95_test_vectors.md. -/
theorem test_rti :
    sees (step (start { r0 with sp := 0xFC } [0x40] [(0x01FD, 0x30), (0x01FE, 0x02), (0x01FF, 0x02)])) [] =
      some ({ r0 with pc := 0x0202 }, []) := by decide

/-- Vector Y4 of 95_test_vectors.md. -/
theorem test_rti_flags :
    sees (step (start { r0 with sp := 0xFC } [0x40] [(0x01FD, 0xCF), (0x01FE, 0x34), (0x01FF, 0x12)])) [] =
      some ({ r0 with p := 0xFF, pc := 0x1234 }, []) := by decide

/-- Vector Y5 of 95_test_vectors.md. -/
theorem test_unmapped :
    sees (step (start r0 [0x02] [])) [] =
      some ({ r0 with pc := 0x0201 }, []) := by decide

/-- Vector Y6 of 95_test_vectors.md. -/
theorem test_unmapped_ff :
    sees (step (start r0 [0xFF] [])) [] =
      some ({ r0 with pc := 0x0201 }, []) := by decide

/-- Vector A13: with `P.D` = 1 ADC is refused. -/
theorem test_adc_decimal_refused : refusal (step (start { r0 with p := 0x38 } [0x69, 0x01] [])) = some .decimalMode := by decide

/-- Vector A13: with `P.D` = 1 SBC is refused. -/
theorem test_sbc_decimal_refused : refusal (step (start { r0 with p := 0x38 } [0xE5, 0x01] [])) = some .decimalMode := by decide

/-- JSR by hand (R281): at 01FD with `SP` = FF the low return byte is pushed over the instruction's own third byte, 01FF. -/
theorem test_jsr_overwrites_itself :
    sees (step (start { r0 with pc := 0x01FD } [0x20, 0x34, 0x12] [])) [0x01FF, 0x01FE] =
      some ({ r0 with sp := 0xFD, pc := 0x0134 }, [0x01, 0xFF]) := by decide

/-! ### Exceptions by hand from programs P4 and P5, and RESET from P1 -/

theorem test_irq_entry :
    sees (exec .irq (start { r0 with p := 0x32, pc := 0x0206 } [0xE8] [(0xFFFE, 0x00), (0xFFFF, 0x03)]))
        [0x01FF, 0x01FE, 0x01FD] =
      some ({ r0 with sp := 0xFC, p := 0x36, pc := 0x0300 }, [0x02, 0x06, 0x32]) := by decide

theorem test_nmi_entry :
    sees (exec .nmi (start { r0 with x := 0x01, pc := 0x0201 } [0x4C] [(0xFFFA, 0x00), (0xFFFB, 0x04)]))
        [0x01FF, 0x01FE, 0x01FD] =
      some ({ r0 with x := 0x01, sp := 0xFC, pc := 0x0400 }, [0x02, 0x01, 0x34]) := by decide

theorem test_reset_entry :
    sees (exec .reset (start { r0 with a := 0x01, x := 0x02, y := 0x03, sp := 0x04, p := 0xFF } [] [(0xFFFC, 0x00), (0xFFFD, 0x02)])) [] =
      some (r0, []) := by decide

/-- The selection table of section 2.3, with `DBUF` = EA. -/
theorem test_selection_table :
    let sel := fun res nmi irq =>
      (Cpu.dispatch { State.reset.cpu with dbuf := 0xEA, resPend := res, nmiPend := nmi, irqPend := irq }).ir
    [sel true true true, sel false true true, sel false false true, sel false false false] =
      [0x100#9, 0x101#9, 0x102#9, 0x0EA#9] := by decide

/-- The NMI latch table of section 2.3. -/
theorem test_nmi_latch_table :
    ([false, false, true, false, false, true, false].foldl
        (fun (acc : Cpu × List Bool) level =>
          let c := acc.1.latch true level true true
          (c, acc.2 ++ [c.nmiPend]))
        (Cpu.powerOn ⟨0, 0, 0, 0, 0, 0, 0, 0, 0, 0⟩, [])).2 =
      [false, false, false, true, true, true, true] := by decide

/-- The IRQ table of section 2.3. -/
theorem test_irq_pending_table :
    ([(false, 0x30#8), (false, 0x34), (true, 0x30), (true, 0x34)].map fun e =>
        ({ State.reset.cpu with p := e.2 }.latch true true e.1 true).irqPend) =
      [true, false, false, false] := by decide

/-! ### Bus transactions, from the column "bus" of the vectors -/

theorem test_bus_lda_inx :
    bus (start { r0 with x := 0xFF } [0xA1, 0x20] [(0x001F, 0x00), (0x0020, 0x03), (0x0300, 0x99)]) =
      some [ busRead 0x0201 0x20, busRead 0x0201 0x20, busRead 0x001F 0x00, busRead 0x0020 0x03,
             busRead 0x0300 0x99 ] := by decide

theorem test_bus_lsr_zp :
    bus (start r0 [0x46, 0x10] [(0x0010, 0x03)]) =
      some [busRead 0x0201 0x10, busRead 0x0010 0x03, busRead 0x0010 0x03, busWrite 0x0010 0x01] := by decide

theorem test_bus_jsr :
    bus (start r0 [0x20, 0x00, 0x03] []) =
      some [ busRead 0x0201 0x00, busRead 0x0201 0x00, busWrite 0x01FF 0x02, busWrite 0x01FE 0x02,
             busRead 0x0202 0x03 ] := by decide

theorem test_bus_rts :
    bus (start { r0 with sp := 0xFD, pc := 0x0300 } [0x60] [(0x01FE, 0x02), (0x01FF, 0x02)]) =
      some [ busRead 0x0301 0x00, busRead 0x0301 0x00, busRead 0x01FE 0x02, busRead 0x01FF 0x02,
             busRead 0x01FF 0x02 ] := by decide

theorem test_bus_brk :
    bus (start r0 [0x00, 0xEA] [(0xFFFE, 0x00), (0xFFFF, 0x04)]) =
      some [ busRead 0x0201 0xEA, busWrite 0x01FF 0x02, busWrite 0x01FE 0x02, busWrite 0x01FD 0x30,
             busRead 0xFFFE 0x00, busRead 0xFFFF 0x04 ] := by decide

theorem test_bus_branch_taken : bus (start r0 [0x10, 0x02] []) = some [busRead 0x0201 0x02, busRead 0x0201 0x02] := by decide

theorem test_bus_unmapped : bus (start r0 [0x02] []) = some [] := by decide

/-! ### Buses (vectors B1 to B9) and memory devices (M1 to M7) -/

theorem test_bus_b1 :
    (((Bus.new .standard 8).reset.write 0x1FF).read, ((Bus.new .standard 8).reset.write 0x1FF).hasConflict) =
      (0xFF, false) := by decide

theorem test_bus_b2 :
    let b := ((Bus.new .standard 8).reset.write 0x1FF).write 0x12
    (b.read, b.hasConflict, b.reset.read, b.reset.hasConflict, b.reset.last) = (0x12, true, 0x00, false, 0x12) := by decide

theorem test_bus_b3 : ((Bus.new .standard 24).reset.write 0x1FFFFFF).read = 0xFFFFFF := by decide

theorem test_bus_b4 :
    let b := (((Bus.new .standard 1).reset.write 1).write 1)
    (b.read, b.hasConflict) = (1, true) := by decide

theorem test_bus_b5 :
    let b := (Bus.new .openCollector 1).reset
    let c := (b.write 0).write 0
    (b.read, (b.write 0).read, c.read, (c.write 1).read, (c.write 1).reset.read, (c.write 1).hasConflict) =
      (1, 0, 0, 0, 1, false) := by decide

theorem test_bus_b6 :
    let b := (Bus.new .fixedHigh 1).reset.write 0
    (b.read, b.hasConflict, b.reset.read, b.reset.hasConflict) = (1, true, 1, false) := by decide

theorem test_bus_b7 :
    let b := (Bus.new .fixedLow 1).write 1
    (b.read, b.hasConflict) = (0, true) := by decide

theorem test_bus_b8 :
    ((List.range 9).map fun k =>
        ((List.range (k + 1)).foldl (fun b _ => ((b.reset.advance).write 1)) (Bus.new (.dividedClock 3) 1)).read) =
      [0, 0, 1, 1, 1, 0, 0, 0, 1] := by decide

theorem test_bus_b9 :
    ((List.range 4).map fun k =>
        ((List.range (k + 1)).foldl (fun b _ => b.reset.advance) (Bus.new (.dividedClock 1) 1)).read) =
      [1, 0, 1, 0] := by decide

/-- The buses of a tick in which the devices have not yet been evaluated: enable, direction, address and data as given. -/
def lines (en rw addr data : Nat) : Buses :=
  let bs := Buses.referencePlatform 1
  { bs with
    rw := bs.rw.write rw
    addr := bs.addr.write addr
    data := { bs.data with value := data }
    aux := [(Bus.new .standard 1).write en] }

/-- The data bus after a memory device's evaluation, and how often it was written. -/
def driven (r : MemDevice × Buses) : Nat × Nat :=
  (r.2.data.value, r.2.data.count)

theorem test_memory_m1 :
    let d := (MemDevice.new 16 8 .addr .data (.aux 0) (some .rw)).evaluate (lines 0 0 0x1234 0xAB)
    (d.1.cells, driven d, driven (d.1.evaluate (lines 0 1 0x1234 0))) = ([(0x1234, 0xAB#8)], (0xAB, 0), (0xAB, 1)) := by decide

theorem test_memory_m2 :
    let d := ({ MemDevice.new 16 8 .addr .data (.aux 0) (some .rw) with cells := [(0x1234, 0xAB#8)] }).evaluate
      (lines 1 0 0x1234 0xCD)
    (d.1.cells, driven d) = ([(0x1234, 0xAB#8)], (0xCD, 0)) := by decide

theorem test_memory_m3 :
    driven (({ MemDevice.new 4 8 .addr .data (.aux 0) (some .rw) with cells := [(4, 0x77#8)] }).evaluate (lines 0 1 0x1234 0)) =
      (0x77, 1) := by decide

theorem test_memory_m4 : (MemDevice.new 30 8 .addr .data .gnd none).aw = 24 := by decide

theorem test_memory_m5 :
    let d := (MemDevice.new 8 4 .addr .data (.aux 0) (some .rw)).evaluate (lines 0 0 0x05 0xAB)
    (d.1.cells, driven (d.1.evaluate (lines 0 1 0x05 0))) = ([(0x05, 0x0B#8)], (0x0B, 1)) := by decide

/-- STA $0300 on a system whose memory is a ROM. -/
def romState : State :=
  let s := start { r0 with a := 0x22 } [0x8D, 0x00, 0x03] [(0x0300, 0x11)]
  { s with mems := s.mems.map fun d => { d with rwBus := none } }

/-- Vector M6 at the instruction level. -/
theorem test_memory_m6 :
    (match step romState with
      | .next t => some (t.peek 0x0300, t.buses.data.read, t.conflicts)
      | _ => none) = some (0x11#8, 0x11, [.data]) := by decide

/-- Vector M7: nobody answers a read. -/
theorem test_memory_m7 : { State.reset with mems := [] }.clockCycle.cpu.dbuf = 0x00#8 := by decide

/-! ### Ticks of program P1 -/

/-- Program P1 at power-on. -/
def p1 : State :=
  (State.powerOn Config.default ⟨1, 2, 3, 4, 5, 6, 7, 8, 9, 10⟩ [resetInput .reference, resetInput .reference]).loadBytes 0xFFFC [0x00, 0x02]

/-- Tick 0 of P1: cycle 0 selects RESET. -/
theorem test_p1_tick0 :
    (match p1.tick with
      | .next t => some ([t.buses.clk.read, t.buses.addr.read, t.buses.rw.read, t.buses.sync.read, t.cpu.cyc], t.cpu.ir, [t.cpu.sp, t.cpu.p])
      | _ => none) = some ([1, 0, 1, 0, 1], 0x100#9, [0xFF#8, 0x30#8]) := by decide

/-- Tick 4 of P1: RESET retires. -/
theorem test_p1_tick4 :
    (match p1.ticks 5 with
      | .next t => some ([t.buses.addr.read, t.buses.data.read, t.cpu.cyc], t.cpu.pc, t.cpu.resPend, t.conflicts)
      | _ => none) = some ([0xFFFD, 0x02, 0], 0x0200#16, false, []) := by decide

/-- With nothing loaded, the boot leaves the state after reset, but for `TMP` (log entry 3). -/
theorem test_boot_leaves_reset_state :
    (match (State.powerOn Config.default ⟨1, 2, 3, 4, 5, 6, 7, 0, 9, 10⟩ [resetInput .reference, resetInput .reference]).ticks 5 with
      | .next t => some t
      | _ => none) = some State.reset := by decide

/-! ### The interface of the host -/

theorem test_fetch_word_runs :
    sees (step (State.reset.withFetchWord 16 0x50A9)) [] =
      some ({ r0 with a := 0x50, pc := 0x0002 }, []) := by decide

/-- On an order with a memory before the CPU, and on one without the memory, `step` is refused (U18); with a data width of 9
it is refused too (U7). -/
theorem test_step_refuses_what_the_spec_refuses :
    [ refusal (step { State.reset with cfg := { Config.default with evalOrder := [.mem 0, .cpu] } }),
      refusal (step { State.reset with cfg := { Config.default with evalOrder := [.cpu] } }),
      refusal (step { State.reset with mems := State.reset.mems.map fun d => { d with dw := 9 } }) ] =
      [some .evalOrder, some .evalOrder, some .dataWidth] := by decide

/-- From power-on a step is a tick: the first one of P1 selects RESET, in the middle of a bus cycle a step goes on with it. -/
theorem test_step_ticks_between_boundaries :
    (match step p1 with
      | .next t => some (t.cpu.ir, t.cpu.cyc, match step t with | .next u => u.cpu.cyc | _ => 9)
      | _ => none) = some (0x100#9, 1, 1) := by decide

/-- Two RAMs answer one address: the one evaluated later stands on `DATA` (R61, R83), in either order R8 allows. -/
def twoRams (order : List DeviceId) : State :=
  let ram := fun v : Byte => { MemDevice.new 16 8 .addr .data .gnd (some .rw) with cells := [(0, 0xA9#8), (1, v)] }
  { State.reset with mems := [ram 0x11, ram 0x22], cfg := { Config.default with evalOrder := order } }

theorem test_later_memory_stands :
    [ (sees (step (twoRams [.cpu, .mem 0, .mem 1])) []).map fun e => e.1.a,
      (sees (step (twoRams [.cpu, .mem 1, .mem 0])) []).map fun e => e.1.a ] = [some 0x22#8, some 0x11#8] := by decide

/-- The reference platform with the CPU's ports, and so the RAM's and the provider's, on other buses (R40, U19). -/
def rewired : State :=
  let p : Ports :=
    { clk := .aux 3, addr := .aux 1, data := .addr, rw := .nmi, sync := .rw, res := .data, nmi := .aux 0, irq := .aux 0 }
  let ram := { MemDevice.new 16 8 p.addr p.data .gnd (some p.rw) with cells := [(0, 0xA9#8), (1, 0x80#8), (0xFFFC, 0#8)] }
  { State.reset with
    cfg := { Config.default with ports := p }
    buses := { Buses.referencePlatform 1 with
      addr := Bus.new .standard 8, nmi := Bus.new .standard 1, data := Bus.new .standard 1
      aux := [ Bus.new .openCollector 1, Bus.new .standard 16, Bus.new .fixedHigh 1,
               { Bus.new (.dividedClock 1) 1 with value := 1 } ] }
    mems := [ram] }

/-- LDA #$80 on it, at the instruction level and in its four ticks. -/
theorem test_rewired_runs :
    rewired.instructionLevel = true ∧ (sees (step rewired) []).map (fun e => (e.1.a, e.1.pc)) = some (0x80#8, 0x0002#16) ∧
      (match step rewired, rewired.ticks 4 with
        | .next t, .next u => decide (t = u)
        | _, _ => false) = true := by decide

/-- Two ports on one bus (R40): the tick level writes it twice, a conflict (R63, R154), and a step is a tick. -/
theorem test_two_ports_on_one_bus :
    let s := { State.reset with cfg := { Config.default with ports := { Ports.reference with sync := .rw } } }
    s.instructionLevel = false ∧
      (match step s with
        | .next t => some (t.buses.rw.count, t.buses.rw.value, decide (BusId.rw ∈ t.conflicts))
        | _ => none) = some (2, 1, true) := by decide

theorem test_fetch_selector_runs :
    (State.reset.withFetchWord 16 0x102).cycleZero.selected = some .irq := by decide

/-! ### States that meet the hypotheses of the statements -/

/-- A state at a boundary in which the given latches are set. -/
def pending (res nmi : Bool) (p : Byte) (inputs : List TickInput) : State :=
  let s := start { r0 with p := p } [0xE8] []
  { s with cpu := { s.cpu with resPend := res, nmiPend := nmi }, inputs := inputs }

/-- LDA #$80 at `PC`, nothing pending. -/
def ldaNext : State := start r0 [0xA9, 0x80] []

/-- Two ticks in which the IRQ line is low. -/
def irqLow : List TickInput :=
  List.replicate 2 { writes := [(.res, 1), (.irq, 0)], holdClock := false }

/-- StepKeepsInvariant, MachineStopsOnlyInDecimalMode (it goes on), StepIsItsTicks. -/
theorem test_witness_invariant_goes_on :
    ldaNext.inv = true ∧ ldaNext.cycleZero.selected = some (.ldaImm 0x80) ∧
      (sees (step ldaNext) []).isSome = true := by decide

/-- MachineStopsOnlyInDecimalMode (it stops), OnlyDecimalAdcAndSbcAreRefused. -/
theorem test_witness_invariant_stops :
    (start { r0 with p := 0x38 } [0x69, 0x01] []).inv = true ∧
      getFlag .d (start { r0 with p := 0x38 } [0x69, 0x01] []).cpu.p = true ∧
      (start { r0 with p := 0x38 } [0x69, 0x01] []).cycleZero.selected = some (.adcImm 0x01) ∧
      readsDecimal (.adcImm 0x01) = true := by decide

/-- StepRunsTheDecodedInstruction. -/
theorem test_witness_step_runs_decoded :
    ldaNext.instructionLevel = true ∧ ldaNext.cfg.optable = [] ∧ ldaNext.clockCycle.cpu.resPend = false ∧
      ldaNext.clockCycle.cpu.nmiPend = false ∧ ldaNext.clockCycle.cpu.irqPend = false ∧
      decode [ldaNext.peek ldaNext.cpu.pc, ldaNext.peek (ldaNext.cpu.pc + 1), ldaNext.peek (ldaNext.cpu.pc + 2)] =
        .ok (.ldaImm 0x80, [0x00]) :=
  ⟨by decide, by decide, by decide, by decide, by decide, rfl⟩

/-- ArbiterSelectsByPriority: a reset pending beside an NMI. -/
theorem test_witness_arbiter_reset :
    (pending true true 0x30 irqLow).instructionLevel = true ∧ (pending true true 0x30 irqLow).clockCycle.cpu.resPend = true := by
  decide

/-- ArbiterSelectsByPriority (clause 4): RESET goes on with an NMI pending, and no reset is pending afterwards. -/
theorem test_witness_reset_passes_nmi :
    (match exec .reset (pending false true 0x30 []) with
      | .next t => some (t.cpu.nmiPend, t.clockCycle.cpu.resPend)
      | _ => none) = some (true, false) := by decide

/-- ArbiterSelectsByPriority: an NMI pending beside an IRQ. -/
theorem test_witness_arbiter_nmi :
    let s := pending false true 0x30 irqLow
    s.instructionLevel = true ∧ s.clockCycle.cpu.resPend = false ∧ s.clockCycle.cpu.nmiPend = true ∧
      s.clockCycle.cpu.irqPend = true := by decide

/-- ArbiterSelectsByPriority, IrqIsMaskedByI (clause 2): an IRQ alone. -/
theorem test_witness_arbiter_irq :
    let s := pending false false 0x30 irqLow
    s.instructionLevel = true ∧ s.clockCycle.cpu.resPend = false ∧ s.clockCycle.cpu.nmiPend = false ∧
      s.clockCycle.cpu.irqPend = true ∧ getFlag .i s.cpu.p = false ∧ s.clockCycle.level s.cfg.ports.irq = false := by decide

/-- IrqIsMaskedByI (clause 1): the line is low and `P.I` = 1. -/
theorem test_witness_irq_masked :
    let s := pending false false 0x34 irqLow
    s.instructionLevel = true ∧ getFlag .i s.cpu.p = true ∧ s.clockCycle.level s.cfg.ports.irq = false := by decide

/-- ArbiterSelectsByPriority (clause 3): a rising edge with `CYC` = 1, in which LDA #M retires, and one of LDA zp, which goes
on. -/
theorem test_witness_rising_edge_past_cycle_zero :
    (match Cpu.risingEdge Config.default 0x80 { State.reset.cpu with cyc := 1, ir := 0x0A9 } with
      | .retired c => some c.a
      | _ => none) = some 0x80#8 ∧
    (match Cpu.risingEdge Config.default 0x80 { State.reset.cpu with cyc := 1, ir := 0x0A5 } with
      | .more c => some c.paddr
      | _ => none) = some 0x0080#16 := by decide

/-- AdcAddsWithCarry, SbcSubtractsWithBorrow: `P.D` = 0, with either carry in (P.D = 1 stands above); every list of forms has members. -/
theorem test_witness_binary_mode :
    getFlag .d (start r0 [] []).cpu.p = false ∧ getFlag .c (start { r0 with p := 0x31 } [] []).cpu.p = true ∧
      getFlag .d (start { r0 with p := 0x31 } [] []).cpu.p = false ∧
      (formsAdc 0 0).length = 8 ∧ (formsSbc 0 0).length = 8 := by decide

/-- The lists that the instruction statements range over have the forms of R124. -/
theorem test_form_counts :
    [formsLda 0 0, formsLdx 0 0, formsLdy 0 0, formsSta 0 0, formsStx 0 0, formsSty 0 0, formsAnd 0 0, formsOra 0 0,
      formsEor 0 0, formsCmp 0 0, formsCpx 0 0, formsCpy 0 0, formsBit 0 0, formsAsl 0 0, formsLsr 0 0, formsRol 0 0,
      formsRor 0 0, formsInc 0 0, formsDec 0 0].map List.length =
      [8, 5, 5, 7, 3, 3, 8, 8, 8, 8, 3, 3, 2, 4, 4, 4, 4, 4, 4] := by decide

/-- StaStoresAccumulator and the other storing statements: the clause of `Stores` on a plain RAM. -/
theorem test_witness_plain_ram : (start r0 [] []).plainRam = true := by decide

/-- ReturnUndoesCall, RtiUndoesInterruptFrames; at the boundary where the pushes wrap from 0100 to 01FF. -/
theorem test_witness_frames :
    let s := start { r0 with sp := 0x01 } [0x20, 0x00, 0x03] []
    s.plainRam = true ∧ s.cfg.stackPageOk = true ∧ s.statusOk = true ∧
      (sees (exec (.jsr 0x00 0x03) s) []).isSome = true ∧ (sees (exec .irq s) []).isSome = true ∧
      (sees (exec .nmi s) []).isSome = true ∧ (sees (exec .brk s) []).isSome = true := by decide

/-- OnlyListedInstructionsWriteRegisters, OnlyListedInstructionsWriteFlags, OnlyStoringInstructionsWriteMemory,
StatusBitsStaySet, LatchesFollowTheLines, MemoryStaysCanonical: NOP goes on and is in none of the lists. -/
theorem test_witness_frame_lists :
    (sees (exec .nop (start r0 [0xEA] [])) []).isSome = true ∧
      [writesA .nop, writesX .nop, writesY .nop, writesSp .nop, writesMemory .nop, writesB .nop, writesFlag .c .nop] =
        [false, false, false, false, false, false, false] ∧
      (start r0 [0xEA] []).statusOk = true ∧ (start r0 [0xEA] []).arraysOk = true := by decide

/-- StatusBitsStaySet (clauses 2 to 4): RESET, PLP and RTI go on from a status without bits 5 and 4. -/
theorem test_witness_status_forced :
    let s := start { r0 with p := 0x00 } [] []
    (sees (exec .reset s) []).isSome = true ∧ (sees (exec .plp s) []).isSome = true ∧
      (sees (exec .rti s) []).isSome = true ∧ s.statusOk = false := by decide

/-- BusOperationsByKind, ClocksAndFixedSourcesKeepTheirLevel: a bus of every kind. -/
theorem test_witness_bus_kinds :
    (Bus.new .standard 8).kind = .standard ∧ (Bus.new .openCollector 1).kind = .openCollector ∧
      (Bus.new .fixedHigh 1).kind = .fixedHigh ∧ (Bus.new .fixedLow 1).kind = .fixedLow := by decide

/-- AssemblyNeverChanges, MemoryStaysCanonical (clause 4), ReferencePlatformHasNoConflict, LatchesFollowTheLines: a tick that
goes on. -/
theorem test_witness_tick :
    State.reset.platformOk = true ∧ State.reset.referenceRam = true ∧ State.reset.arraysOk = true ∧
      State.reset.portsOk = true ∧ State.reset.cfg.clockOk = true ∧
      (State.reset.inputs.headD (idleInput .reference)).sparesOutputs .reference = true ∧
      (sees State.reset.tick []).isSome = true := by decide

/-- LatchesFollowTheLines: an instruction with further bus cycles and one without. -/
theorem test_witness_transactions :
    transactions .nop (start r0 [0xEA] []) ≠ [] ∧ transactions .unmapped02 (start r0 [0x02] []) = [] ∧
      (sees (exec .unmapped02 (start r0 [0x02] [])) []).isSome = true := by decide

/-- MachineStopsOnlyInDecimalMode, clause 2 (past a boundary), clause 3 (it goes on; it is refused in ADC #M's last
micro-step), clauses 4 and 5. -/
theorem test_witness_tick_steps :
    let s := { State.reset with cpu := { State.reset.cpu with cyc := 1 } }
    let adc := { State.reset with
      cpu := { State.reset.cpu with cyc := 1, ir := 0x069, p := 0x38, lastClk := false }
      buses := { State.reset.buses with clk := { State.reset.buses.clk with value := 0 } } }
    s.instructionLevel = false ∧ s.evalOrderOk = true ∧ s.mems.all MemDevice.widthOk = true ∧ s.sequencerOk = true ∧
      (sees s.tick []).isSome = true ∧ adc.sequencerOk = true ∧ refusal adc.tick = some .decimalMode ∧
      State.evalOrderOk { State.reset with mems := [] } = false ∧
      (State.reset.mems.map fun d => { d with dw := 0 }).all MemDevice.widthOk = false := by decide

/-- MemoryDeviceRoundTrip. -/
theorem test_witness_round_trip :
    let d := MemDevice.new 16 8 .addr .data (.aux 0) (some .rw)
    let bs := lines 0 0 0xFFFF 0xAB
    let bs' := lines 0 1 0xFFFF 0x00
    let between := lines 0 0 0xFFFE 0xCD
    Memory.wf d.cells = true ∧ d.rwBus = some .rw ∧ (bs.get d.enBus).read = 0 ∧ (bs.get .rw).read = 0 ∧
      ¬ ((between.get d.enBus).read = 0 ∧ (between.get .rw).read = 0 ∧
        (between.get d.addrBus).read % 2 ^ d.aw = (bs.get d.addrBus).read % 2 ^ d.aw) ∧
      (bs'.get d.enBus).read = 0 ∧ (bs'.get .rw).read ≠ 0 ∧
      (bs'.get d.addrBus).read % 2 ^ d.aw = (bs.get d.addrBus).read % 2 ^ d.aw := by decide

/-- MemoryDeviceActsOnlyWhenEnabled, RomStoresConflictOpenReadsAreZero (clause 1): a disabled device, an enabled one that
writes, one that reads, and one without a read/write line. -/
theorem test_witness_device_clauses :
    Memory.wf (MemDevice.new 16 8 .addr .data (.aux 0) (some .rw)).cells = true ∧
      ((lines 1 0 0 0).get (.aux 0)).read ≠ 0 ∧ ((lines 0 0 0 0).get (.aux 0)).read = 0 ∧
      ((lines 0 0 0 0).get .rw).read = 0 ∧ ((lines 0 1 0 0).get .rw).read ≠ 0 ∧
      (MemDevice.new 16 8 .addr .data (.aux 0) none).rwBus = none := by decide

/-- RomStoresConflictOpenReadsAreZero: a store that a ROM answers and that goes on, and a system that answers nothing. -/
theorem test_witness_rom_and_open :
    (sees (exec (.staAbs 0x00 0x03) romState) []).isSome = true ∧ romState.evalOrderOk = true ∧ romState.portsOk = true ∧
      (romState.mems.any fun d => d.enabled romState.buses && d.rwBus.isNone) = true ∧
      ({ State.reset with mems := [] }.mems.all fun d => !d.enabled State.reset.buses) = true := by decide

/-- MemoryStaysCanonical (clauses 1 and 2). -/
theorem test_witness_canonical :
    Memory.wf [(0xFFFF, 0x01#8)] = true ∧
      MemDevice.arrayOk { MemDevice.new 16 8 .addr .data .gnd none with cells := [(0xFFFF, 0x01#8)] } = true := by decide

/-- ReadsReturnTheLatestWrite (clause 2): STA over the next opcode, at 0203. -/
theorem test_witness_store_then_fetch :
    let s := start { r0 with a := 0xE8 } [0x8D, 0x03, 0x02] []
    s.plainRam = true ∧
      (match exec (.staAbs 0x03 0x02) s with
        | .next t => some (((transactions (.staAbs 0x03 0x02) s).filter fun y => y.write && decide (y.addr = t.cpu.pc)).getLast?)
        | _ => none) = some (some (busWrite 0x0203 0xE8)) := by decide

/-- PowerOnBootsThroughReset. -/
theorem test_witness_boot :
    Config.default.clkDiv = 1 ∧ Config.default.evalOrder = [.cpu, .mem 0] ∧ Config.default.ports = Ports.reference ∧
      MemDevice.arrayOk { MemDevice.new 16 8 .addr .data .gnd (some .rw) with cells := [(0xFFFC, 0x02#8)] } = true := by decide

/-- NoEdgeTickKeepsRegisters: the clock level is that of the tick before. -/
theorem test_witness_no_edge :
    State.reset.level State.reset.cfg.ports.clk = State.reset.cpu.lastClk ∧ State.reset.portsOk = true := by decide

/-- OutputsChangeOnFallingEdges (clause 1), LatchesUpdateEveryTick: a falling edge. -/
theorem test_witness_falling_edge :
    State.reset.startTick.cpu.lastClk = true ∧ State.reset.startTick.level .clk = false ∧ State.reset.startTick.portsOk = true ∧
      (sees State.reset.startTick.evaluateCpu []).isSome = true := by decide

/-- LatchesUpdateEveryTick: the micro-step that completes RESET clears its latch, one before it does not. -/
theorem test_witness_completion :
    let s := fun k : Nat => { State.reset with
      cpu := { State.reset.cpu with cyc := k, lastClk := false, resPend := true, nmiPend := true } }
    ((match (s 2).evaluateCpu with
        | .next t => some (t.cpu.resPend, t.cpu.nmiPend, t.cpu.cyc)
        | _ => none) = some (false, true, 0)) ∧
      (match (s 1).evaluateCpu with
        | .next t => some (t.cpu.resPend, t.cpu.nmiPend, t.cpu.cyc)
        | _ => none) = some (true, true, 2) := by decide

/-- LatchesUpdateEveryTick: an NMI transition and a low reset line outside the micro-steps of NMI and RESET. -/
theorem test_witness_latches :
    let s := { State.reset.startTick with
      cpu := { State.reset.startTick.cpu with ir := 0x0EA }
      buses := { State.reset.startTick.buses with
        nmi := { State.reset.startTick.buses.nmi with value := 0 }
        res := { State.reset.startTick.buses.res with value := 0 } } }
    s.cpu.lastNmi = true ∧ s.buses.nmi.level = false ∧ s.buses.res.level = false ∧
      (match s.evaluateCpu with
        | .next t => some (t.cpu.nmiPend, t.cpu.resPend, t.cpu.ir)
        | _ => none) = some (true, true, 0x0EA#9) := by decide

/-- ClocksAndFixedSourcesKeepTheirLevel: the least divisor. -/
theorem test_witness_divisor : 1 ≤ Config.default.clkDiv := by decide

/-- DecodeEncodeAgree: a well-formed instruction of each length, bytes that decode, bytes too short. -/
theorem test_witness_encoding :
    [Instr.wellFormed .nop, Instr.wellFormed (.beq 0xFF), Instr.wellFormed (.jsr 0xFF 0xFF)] = [true, true, true] ∧
      decode [0x20, 0xFF, 0xFF] = .ok (.jsr 0xFF 0xFF, []) ∧ decode [0x20, 0xFF] = .error (.missingOperand 0x20) :=
  ⟨by decide, rfl, rfl⟩

end Sys2Proof.Tests
end

section
/-! ### Buses by handle: reading after an operation, and equality -/

namespace Sys2Proof.Machine

/-- A handle to a bus that the system does not have reads the undriven bus. -/
theorem Buses.get_of_not_has {bs : Buses} {id : BusId} (h : bs.has id = false) : bs.get id = Bus.absent := by
  cases id with
  | aux n =>
    have hn : bs.aux.length ≤ n := by simpa [Buses.has] using h
    simp [Buses.get, List.getD_eq_getElem?_getD, List.getElem?_eq_none hn]
  | _ => cases h

/-- A bus that is not a standard one exists. -/
theorem Buses.has_of_kind_ne {bs : Buses} {id : BusId} (h : (bs.get id).kind ≠ .standard) : bs.has id = true := by
  by_contra hn
  exact h (by rw [Buses.get_of_not_has (by simpa using hn)]; rfl)

theorem Buses.get_map_eq_ite (f : Bus → Bus) (id : BusId) (bs : Buses) :
    (bs.map f).get id = if bs.has id then f (bs.get id) else Bus.absent := by
  split
  case isTrue h => exact Buses.get_map f h
  case isFalse h => exact Buses.get_of_not_has (by simpa using h)

theorem Buses.get_modify_eq_ite (id id' : BusId) (f : Bus → Bus) (bs : Buses) :
    (bs.modify id f).get id' = if id' = id ∧ bs.has id = true then f (bs.get id') else bs.get id' := by
  split
  case isTrue h => rw [h.1]; exact Buses.get_modify_self h.2 f
  case isFalse h =>
    by_cases hid : id' = id
    · have hn : bs.has id' = false := by rw [hid]; simpa using fun hh => h ⟨hid, hh⟩
      rw [Buses.get_of_not_has hn, Buses.get_of_not_has (by simpa using hn)]
    · exact Buses.get_modify_ne hid f bs

/-- Two bus systems are one when they have the same handles and agree at each. -/
theorem Buses.ext_get {bs bs' : Buses} (hhas : ∀ id, bs'.has id = bs.has id) (hget : ∀ id, bs'.get id = bs.get id) :
    bs' = bs := by
  have hlen : bs'.aux.length = bs.aux.length := by
    have hlt : ∀ n, n < bs'.aux.length ↔ n < bs.aux.length := fun n => by
      simpa [Buses.has] using hhas (.aux n)
    have h1 := hlt bs.aux.length
    have h2 := hlt bs'.aux.length
    omega
  have haux : bs'.aux = bs.aux := List.ext_getElem hlen fun n h h' => by
    simpa [Buses.get, List.getD_eq_getElem?_getD, h, h'] using hget (.aux n)
  cases bs; cases bs'
  simp only [Buses.mk.injEq]
  exact ⟨hget .clk, hget .addr, hget .data, hget .rw, hget .sync, hget .res, hget .nmi, hget .irq, hget .gnd, haux⟩

/-- An operation that leaves the bus of a handle as it is leaves the buses as they are. -/
theorem Buses.modify_eq_self {id : BusId} {f : Bus → Bus} {bs : Buses} (h : f (bs.get id) = bs.get id) :
    bs.modify id f = bs := by
  refine Buses.ext_get (fun _ => by simp) fun id' => ?_
  rw [Buses.get_modify_eq_ite]
  split
  case isTrue h' => rw [h'.1, h]
  case isFalse => rfl

/-- Two operations on one bus are their composition. -/
theorem Buses.modify_modify (id : BusId) (f g : Bus → Bus) (bs : Buses) :
    (bs.modify id f).modify id g = bs.modify id (g ∘ f) := by
  refine Buses.ext_get (fun _ => by simp) fun id' => ?_
  simp only [Buses.get_modify_eq_ite, Buses.has_modify]
  split <;> rfl

/-- Operations that agree on the bus of a handle do the same to the buses. -/
theorem Buses.modify_congr {id : BusId} {f g : Bus → Bus} {bs : Buses} (h : f (bs.get id) = g (bs.get id)) :
    bs.modify id f = bs.modify id g := by
  refine Buses.ext_get (fun _ => by simp) fun id' => ?_
  simp only [Buses.get_modify_eq_ite]
  split
  case isTrue h' => rw [h'.1, h]
  case isFalse => rfl

/-! ### Kinds and widths -/

/-- The same buses, of the same kinds and widths. -/
structure Buses.SameWiring (bs bs' : Buses) : Prop where
  has : ∀ id, bs'.has id = bs.has id
  kind : bs.SameKinds bs'
  width : ∀ id, (bs'.get id).width = (bs.get id).width

theorem Buses.SameWiring.refl (bs : Buses) : bs.SameWiring bs := ⟨fun _ => rfl, fun _ => rfl, fun _ => rfl⟩

theorem Buses.SameWiring.trans {b1 b2 b3 : Buses} (h : b1.SameWiring b2) (h' : b2.SameWiring b3) : b1.SameWiring b3 where
  has id := (h'.has id).trans (h.has id)
  kind := h.kind.trans h'.kind
  width id := (h'.width id).trans (h.width id)

theorem Buses.sameWiring_map {f : Bus → Bus} (hk : ∀ b, (f b).kind = b.kind) (hw : ∀ b, (f b).width = b.width)
    (bs : Buses) : bs.SameWiring (bs.map f) where
  has _ := by simp
  kind := Buses.sameKinds_map hk bs
  width id := by
    rw [Buses.get_map_eq_ite]
    split
    case isTrue => exact hw _
    case isFalse h => rw [Buses.get_of_not_has (by simpa using h)]

theorem Buses.sameWiring_modify {f : Bus → Bus} (hk : ∀ b, (f b).kind = b.kind) (hw : ∀ b, (f b).width = b.width)
    (bs : Buses) (id : BusId) : bs.SameWiring (bs.modify id f) where
  has _ := by simp
  kind := Buses.sameKinds_modify hk bs id
  width id' := by
    rw [Buses.get_modify_eq_ite]
    split
    case isTrue => exact hw _
    case isFalse => rfl

/-! ### The CPU's output ports -/

/-- The buses of the output ports are four standard buses of the system, as wide as R40 says. -/
structure Buses.OutputsOk (p : Ports) (bs : Buses) : Prop where
  nodup : p.outputs.Nodup
  has : ∀ id ∈ p.outputs, bs.has id = true
  standard : ∀ id ∈ p.outputs, (bs.get id).kind = .standard
  addrWidth : (bs.get p.addr).width = 16
  dataWidth : (bs.get p.data).width = 8
  rwWidth : (bs.get p.rw).width = 1

theorem Buses.OutputsOk.of_sameWiring {p : Ports} {bs bs' : Buses} (ho : bs.OutputsOk p) (h : bs.SameWiring bs') :
    bs'.OutputsOk p where
  nodup := ho.nodup
  has id hid := (h.has id).trans (ho.has id hid)
  standard id hid := (h.kind id).trans (ho.standard id hid)
  addrWidth := (h.width _).trans ho.addrWidth
  dataWidth := (h.width _).trans ho.dataWidth
  rwWidth := (h.width _).trans ho.rwWidth

theorem addr_mem_outputs (p : Ports) : p.addr ∈ p.outputs := by simp [Ports.outputs]
theorem data_mem_outputs (p : Ports) : p.data ∈ p.outputs := by simp [Ports.outputs]
theorem rw_mem_outputs (p : Ports) : p.rw ∈ p.outputs := by simp [Ports.outputs]
theorem sync_mem_outputs (p : Ports) : p.sync ∈ p.outputs := by simp [Ports.outputs]

theorem State.outputsOk_of_portsOk {s : State} (h : s.portsOk = true) : s.buses.OutputsOk s.cfg.ports := by
  obtain ⟨-, ha, hd, hr, hs, hn, -⟩ := State.portsOk_iff.mp h
  rw [Buses.outputOk_iff] at ha hd hr hs
  refine ⟨hn, ?_, ?_, ha.2.2, hd.2.2, hr.2.2⟩
  · simp [Ports.outputs, ha.1, hd.1, hr.1, hs.1]
  · simp [Ports.outputs, ha.2.1, hd.2.1, hr.2.1, hs.2.1]

/-- The clock's bus is no output port's. -/
theorem State.clk_not_mem_outputs {s : State} (h : s.portsOk = true) : s.cfg.ports.clk ∉ s.cfg.ports.outputs := by
  intro hmem
  have hstd := (State.outputsOk_of_portsOk h).standard _ hmem
  rw [(State.portsOk_iff.mp h).1] at hstd
  cases hstd

/-- One operation on the bus of each output port, in the order of R154. -/
def Buses.onOutputs (p : Ports) (fa fr fs fd : Bus → Bus) (bs : Buses) : Buses :=
  (((bs.modify p.addr fa).modify p.rw fr).modify p.sync fs).modify p.data fd

section OnOutputs
variable {p : Ports} {bs : Buses} {fa fr fs fd : Bus → Bus}

@[simp] theorem Buses.has_onOutputs (id : BusId) : (bs.onOutputs p fa fr fs fd).has id = bs.has id := by
  simp [Buses.onOutputs]

theorem Buses.get_onOutputs_of_not_mem {id : BusId} (h : id ∉ p.outputs) :
    (bs.onOutputs p fa fr fs fd).get id = bs.get id := by
  simp only [Ports.outputs, List.mem_cons, List.not_mem_nil, or_false, not_or] at h
  obtain ⟨ha, hd, hr, hs⟩ := h
  rw [Buses.onOutputs, Buses.get_modify_ne hd, Buses.get_modify_ne hs, Buses.get_modify_ne hr, Buses.get_modify_ne ha]

/-- What the four operations leave at the four output ports. -/
theorem Buses.OutputsOk.get_onOutputs (h : bs.OutputsOk p) (fa fr fs fd : Bus → Bus) :
    (bs.onOutputs p fa fr fs fd).get p.addr = fa (bs.get p.addr) ∧
      (bs.onOutputs p fa fr fs fd).get p.rw = fr (bs.get p.rw) ∧
      (bs.onOutputs p fa fr fs fd).get p.sync = fs (bs.get p.sync) ∧
      (bs.onOutputs p fa fr fs fd).get p.data = fd (bs.get p.data) := by
  have hn := h.nodup
  simp only [Ports.outputs, List.nodup_cons, List.mem_cons, List.not_mem_nil, or_false, not_or] at hn
  obtain ⟨⟨had, har, has⟩, ⟨hdr, hds⟩, hrs, -⟩ := hn
  have ha := h.has _ (addr_mem_outputs p)
  have hd := h.has _ (data_mem_outputs p)
  have hr := h.has _ (rw_mem_outputs p)
  have hs := h.has _ (sync_mem_outputs p)
  simp [Buses.onOutputs, Buses.get_modify_eq_ite, had, har, has, hdr, hds, hrs, Ne.symm har, Ne.symm has, Ne.symm hdr,
    Ne.symm hds, Ne.symm hrs, Ne.symm had, ha, hd, hr, hs]

end OnOutputs

/-- A bus of the same kind and width with the same tick counter: only what stands on it may differ. -/
structure Bus.SameWires (b b' : Bus) : Prop where
  kind : b'.kind = b.kind
  width : b'.width = b.width
  div : b'.div = b.div

theorem Bus.SameWires.refl (b : Bus) : b.SameWires b := ⟨rfl, rfl, rfl⟩

theorem Bus.SameWires.trans {b1 b2 b3 : Bus} (h : b1.SameWires b2) (h' : b2.SameWires b3) : b1.SameWires b3 :=
  ⟨h'.kind.trans h.kind, h'.width.trans h.width, h'.div.trans h.div⟩

/-- Buses that differ at most in what stands on the output ports' buses: same buses, of the same kinds and widths, and the
same everywhere else. -/
structure Buses.SameLines (p : Ports) (bs bs' : Buses) : Prop where
  has : ∀ id, bs'.has id = bs.has id
  off : ∀ id, id ∉ p.outputs → bs'.get id = bs.get id
  wires : ∀ id, (bs.get id).SameWires (bs'.get id)

theorem Buses.SameLines.refl (p : Ports) (bs : Buses) : bs.SameLines p bs :=
  ⟨fun _ => rfl, fun _ _ => rfl, fun _ => .refl _⟩

theorem Buses.SameLines.trans {p : Ports} {b1 b2 b3 : Buses} (h : b1.SameLines p b2) (h' : b2.SameLines p b3) :
    b1.SameLines p b3 where
  has id := (h'.has id).trans (h.has id)
  off id hid := (h'.off id hid).trans (h.off id hid)
  wires id := (h.wires id).trans (h'.wires id)

theorem Buses.SameLines.sameKinds {p : Ports} {bs bs' : Buses} (h : bs.SameLines p bs') : bs.SameKinds bs' :=
  fun id => (h.wires id).kind

theorem Buses.SameLines.sameWiring {p : Ports} {bs bs' : Buses} (h : bs.SameLines p bs') : bs.SameWiring bs' :=
  ⟨h.has, h.sameKinds, fun id => (h.wires id).width⟩

theorem Buses.SameLines.outputsOk {p : Ports} {bs bs' : Buses} (h : bs.SameLines p bs') (ho : bs.OutputsOk p) :
    bs'.OutputsOk p :=
  ho.of_sameWiring h.sameWiring

/-- An operation on one output port's bus that keeps its kind, width and tick counter is no difference. -/
theorem Buses.sameLines_modify {p : Ports} {id : BusId} {f : Bus → Bus} (hid : id ∈ p.outputs)
    (hf : ∀ b : Bus, b.SameWires (f b)) (bs : Buses) :
    bs.SameLines p (bs.modify id f) where
  has _ := by simp
  off id' hid' := Buses.get_modify_ne (ne_of_mem_of_not_mem hid hid').symm f bs
  wires id' := by
    rw [Buses.get_modify_eq_ite]
    split
    case isTrue => exact hf _
    case isFalse => exact .refl _

/-- Operations on a bus of buses alike at the output ports keep them alike: the provider's writes elsewhere. -/
theorem Buses.SameLines.modify {p : Ports} {bs bs' : Buses} (h : bs.SameLines p bs') {id : BusId}
    (hid : id ∉ p.outputs) (f : Bus → Bus) : (bs.modify id f).SameLines p (bs'.modify id f) where
  has id' := by simpa using h.has id'
  off id' hid' := by simp only [Buses.get_modify_eq_ite, h.has, h.off id' hid']
  wires id' := by
    by_cases e : id' = id
    · subst e
      simp only [Buses.get_modify_eq_ite, h.has, h.off id' hid]
      exact .refl _
    · simpa only [Buses.get_modify_ne e] using h.wires id'

/-- An operation on every bus keeps buses alike, if it keeps standard buses' kind, width and tick counter. -/
theorem Buses.SameLines.map {p : Ports} {bs bs' : Buses} (h : bs.SameLines p bs') (ho : bs.OutputsOk p) {f : Bus → Bus}
    (hf : ∀ b : Bus, b.kind = .standard → b.SameWires (f b)) :
    (bs.map f).SameLines p (bs'.map f) where
  has id := by simpa using h.has id
  off id hid := by simp only [Buses.get_map_eq_ite, h.has, h.off id hid]
  wires id := by
    by_cases hid : id ∈ p.outputs
    · have hh := ho.has id hid
      have hk := ho.standard id hid
      obtain ⟨k1, w1, d1⟩ := hf _ hk
      obtain ⟨k2, w2, d2⟩ := hf (bs'.get id) ((h.wires id).kind.trans hk)
      rw [Buses.get_map f hh, Buses.get_map f ((h.has id).trans hh)]
      exact ⟨by rw [k1, k2, (h.wires id).kind], by rw [w1, w2, (h.wires id).width], by rw [d1, d2, (h.wires id).div]⟩
    · simp only [Buses.get_map_eq_ite, h.has, h.off id hid]
      exact .refl _

/-- Operations on the output ports of buses alike end in the same buses when they end alike at each port. -/
theorem Buses.SameLines.onOutputs_eq {p : Ports} {bs bs' : Buses} (h : bs.SameLines p bs') (ho : bs.OutputsOk p)
    {fa fr fs fd ga gr gs gd : Bus → Bus} (ha : ga (bs'.get p.addr) = fa (bs.get p.addr))
    (hr : gr (bs'.get p.rw) = fr (bs.get p.rw)) (hs : gs (bs'.get p.sync) = fs (bs.get p.sync))
    (hd : gd (bs'.get p.data) = fd (bs.get p.data)) :
    bs'.onOutputs p ga gr gs gd = bs.onOutputs p fa fr fs fd := by
  obtain ⟨a1, r1, s1, d1⟩ := ho.get_onOutputs fa fr fs fd
  obtain ⟨a2, r2, s2, d2⟩ := (h.outputsOk ho).get_onOutputs ga gr gs gd
  refine Buses.ext_get (fun id => by simpa using h.has id) fun id => ?_
  by_cases hid : id ∈ p.outputs
  · simp only [Ports.outputs, List.mem_cons, List.not_mem_nil, or_false] at hid
    obtain rfl | rfl | rfl | rfl := hid
    · rw [a1, a2, ha]
    · rw [d1, d2, hd]
    · rw [r1, r2, hr]
    · rw [s1, s2, hs]
  · rw [Buses.get_onOutputs_of_not_mem hid, Buses.get_onOutputs_of_not_mem hid, h.off id hid]

end Sys2Proof.Machine
end

section
/-! ### A bus cycle that is driven again -/

namespace Sys2Proof.Machine

/-- A device that is evaluated again with the same line does what it did (R92): the byte is in its array already. -/
theorem MemDevice.cycle_again (bs : Buses) (addr : Word) (rd : Bool) (d : MemDevice) (l : DataLine)
    (h : Memory.wf d.cells = true) : (d.cycle bs addr rd l).1.cycle bs addr rd l = d.cycle bs addr rd l := by
  by_cases he : d.enabled bs = true
  · by_cases hw : (!rd && d.rwBus.isSome) = true
    · have he' : (d.writeAt addr.toNat l.byte).enabled bs = true := he
      have hw' : (!rd && (d.writeAt addr.toNat l.byte).rwBus.isSome) = true := hw
      have hagain : (d.writeAt addr.toNat l.byte).writeAt addr.toNat l.byte = d.writeAt addr.toNat l.byte :=
        congrArg (fun m => ({ d with cells := m } : MemDevice)) (Memory.write_write d.cells _ _ h)
      simp only [MemDevice.cycle, if_pos he, if_pos hw, if_pos he', if_pos hw', hagain]
    · simp only [MemDevice.cycle, if_pos he, if_neg hw]
  · simp only [MemDevice.cycle, if_neg he]

theorem MemDevice.wf_cycle {bs : Buses} {addr : Word} {rd : Bool} {d : MemDevice} {l : DataLine}
    (h : Memory.wf d.cells = true) : Memory.wf (d.cycle bs addr rd l).1.cells = true := by
  unfold MemDevice.cycle
  split
  · split
    · exact Memory.wf_write _ _ h
    · exact h
  · exact h

/-- Every memory device's array is in canonical form. -/
def Canonical (ms : List MemDevice) : Prop :=
  ∀ d ∈ ms, Memory.wf d.cells = true

theorem Canonical.set {ms : List MemDevice} (h : Canonical ms) {d : MemDevice} (hd : Memory.wf d.cells = true) (k : Nat) :
    Canonical (ms.set k d) := fun e he => by
  obtain he | rfl := List.mem_or_eq_of_mem_set he
  · exact h e he
  · exact hd

theorem Canonical.memCycle {ms : List MemDevice} (h : Canonical ms) (bs : Buses) (addr : Word) (rd : Bool) (id : DeviceId)
    (l : DataLine) : Canonical (memCycle bs addr rd id ms l).1 := by
  cases id with
  | cpu => exact h
  | mem k =>
    unfold Machine.memCycle
    dsimp only
    split
    case h_1 => exact h
    case h_2 d hd => exact h.set (MemDevice.wf_cycle (h d (List.mem_of_getElem? hd))) k

/-- A bus cycle keeps every array in canonical form. -/
theorem Canonical.memsCycle {ms : List MemDevice} (h : Canonical ms) (bs : Buses) (addr : Word) (rd : Bool)
    (order : List DeviceId) (l : DataLine) : Canonical (memsCycle bs addr rd order ms l).1 := by
  induction order generalizing ms l with
  | nil => exact h
  | cons id order ih => exact ih (h.memCycle bs addr rd id l) _

/-- A bus cycle of other devices neither sees nor touches device `k`. -/
theorem memsCycle_set {bs : Buses} {addr : Word} {rd : Bool} {order : List DeviceId} {k : Nat} (hk : .mem k ∉ order)
    (ms : List MemDevice) (d : MemDevice) (l : DataLine) :
    memsCycle bs addr rd order (ms.set k d) l =
      ((memsCycle bs addr rd order ms l).1.set k d, (memsCycle bs addr rd order ms l).2) := by
  induction order generalizing ms l with
  | nil => rfl
  | cons id order ih =>
    have hne : id ≠ .mem k := fun e => hk (e ▸ List.mem_cons_self)
    have hstep : memCycle bs addr rd id (ms.set k d) l =
        ((memCycle bs addr rd id ms l).1.set k d, (memCycle bs addr rd id ms l).2) := by
      cases id with
      | cpu => rfl
      | mem j =>
        have hkj : k ≠ j := fun e => hne (e ▸ rfl)
        simp only [memCycle, List.getElem?_set_ne hkj]
        cases ms[j]? with
        | none => rfl
        | some e => simp only [List.set_comm _ _ hkj]
    simp only [memsCycle, hstep]
    exact ih (fun h => hk (List.mem_cons_of_mem _ h)) _ _

theorem memsCycle_length (bs : Buses) (addr : Word) (rd : Bool) (order : List DeviceId) (ms : List MemDevice)
    (l : DataLine) : (memsCycle bs addr rd order ms l).1.length = ms.length := by
  simpa using congrArg List.length (memsCycle_shape bs addr rd order ms l)

/-- A bus cycle whose first device is `k`, which no later one is. -/
theorem memsCycle_cons_mem {bs : Buses} {addr : Word} {rd : Bool} {order : List DeviceId} {k : Nat} (hk : .mem k ∉ order)
    {ms : List MemDevice} {d : MemDevice} (hd : ms[k]? = some d) (l : DataLine) :
    memsCycle bs addr rd (.mem k :: order) ms l =
      ((memsCycle bs addr rd order ms (d.cycle bs addr rd l).2).1.set k (d.cycle bs addr rd l).1,
        (memsCycle bs addr rd order ms (d.cycle bs addr rd l).2).2) := by
  rw [← memsCycle_set hk]
  simp only [memsCycle, memCycle, hd]

/-- A bus cycle driven again changes no memory device and leaves the same data line (R92). -/
theorem memsCycle_again {bs : Buses} {addr : Word} {rd : Bool} {order : List DeviceId} (hn : order.Nodup)
    {ms : List MemDevice} (h : Canonical ms) (l : DataLine) :
    memsCycle bs addr rd order (memsCycle bs addr rd order ms l).1 l = memsCycle bs addr rd order ms l := by
  induction order generalizing ms l with
  | nil => rfl
  | cons id order ih =>
    obtain ⟨hid, hn⟩ := List.nodup_cons.mp hn
    specialize ih hn h
    cases id with
    | cpu => exact ih l
    | mem k =>
      cases hk : ms[k]? with
      | none =>
        have hskip : ∀ ms' : List MemDevice, ms'[k]? = none →
            memsCycle bs addr rd (.mem k :: order) ms' l = memsCycle bs addr rd order ms' l := fun ms' h' => by
          simp only [memsCycle, memCycle, h']
        have hk' : (memsCycle bs addr rd order ms l).1[k]? = none := by
          rw [List.getElem?_eq_none_iff, memsCycle_length] at *; exact hk
        rw [hskip ms hk, hskip _ hk', ih]
      | some d =>
        have hlt : k < ms.length := (List.getElem?_eq_some_iff.mp hk).1
        have hset : ∀ ms' : List MemDevice, ms'.length = ms.length → ∀ e, (ms'.set k e)[k]? = some e := fun ms' hl e => by
          simp [hl, hlt]
        rw [memsCycle_cons_mem hid hk, memsCycle_cons_mem hid (hset _ (memsCycle_length ..) _),
          d.cycle_again _ _ _ _ (h d (List.mem_of_getElem? hk)), memsCycle_set hid, ih, List.set_set]

end Sys2Proof.Machine
end

section
/-! ### The end of a tick: what the CPU's output registers and the memory devices leave (E7 and T4) -/

namespace Sys2Proof.Machine

/-- A bus with this line on it. -/
def Bus.carry (l : DataLine) (b : Bus) : Bus :=
  { b with value := l.byte.toNat, count := l.writers }

/-- The memory devices and the data line after the bus cycle that the output registers name (R91, R92). -/
def State.transacted (s : State) : List MemDevice × DataLine :=
  memsCycle s.buses s.cpu.oaddr s.cpu.orw s.cfg.evalOrder s.mems (.start s.cpu.orw s.cpu.odata)

/-- The state with the byte of the output registers' bus cycle stored. -/
def State.stored (s : State) : State :=
  { s with mems := s.transacted.1 }

/-- The state in which the staged bus cycle is published and stored. -/
def State.published (s : State) : State :=
  (s.withCpu s.cpu.publish).stored

/-- The buses of the output ports with the output registers and a data line on them. -/
def Buses.driven (p : Ports) (c : Cpu) (l : DataLine) (bs : Buses) : Buses :=
  bs.onOutputs p (Bus.write c.oaddr.toNat) (Bus.write c.orw.toNat) (Bus.write c.osync.toNat) (Bus.carry l)

/-- The state after E7 and the memory devices' `evaluate()`, from the state in which the CPU drives its outputs. -/
def State.driven (s : State) : State :=
  { s.stored with buses := s.buses.driven s.cfg.ports s.cpu s.transacted.2 }

theorem State.settled_iff {s : State} : s.settled = true ↔ s.transacted.1 = s.mems := by
  simp only [State.settled, State.transacted, decide_eq_true_eq]

theorem Bus.read_standard {b : Bus} (h : b.kind = .standard) : b.read = b.value := by
  simp only [Bus.read, h]

theorem Bus.write_standard {b : Bus} (h : b.kind = .standard) (v : Nat) :
    b.write v = { b with value := v &&& b.mask, count := b.count + 1 } := by
  simp only [Bus.write, h]

theorem Bus.and_mask {b : Bus} {v : Nat} (h : v < 2 ^ b.width) : v &&& b.mask = v := by
  rw [Bus.mask, Nat.and_two_pow_sub_one_eq_mod]
  exact Nat.mod_eq_of_lt h

/-- A standard bus wide enough reads what was written last. -/
theorem Bus.read_write {b : Bus} (h : b.kind = .standard) {v : Nat} (hv : v < 2 ^ b.width) : (b.write v).read = v := by
  rw [Bus.read_standard ((Bus.write_kind v b).trans h), Bus.write_standard h, Bus.and_mask hv]

/-- A byte written to a data bus of eight bits stands on it as it is. -/
theorem Bus.write_carry {b : Bus} (h : b.kind = .standard) (hw : b.width = 8) (v : Byte) (l : DataLine) :
    (b.carry l).write v.toNat = b.carry { byte := v, writers := l.writers + 1 } := by
  have hv : v.toNat &&& b.mask = v.toNat := Bus.and_mask (by rw [hw]; exact v.isLt)
  rw [Bus.write_standard (b := b.carry l) h]
  exact congrArg (fun n => { b with value := n, count := l.writers + 1 }) hv

/-- Only a fixed-low enable line of the two kinds that the instruction level allows reads 0. -/
theorem MemDevice.enable_read_eq_zero_iff {bs : Buses} {d : MemDevice}
    (h : (bs.get d.enBus).kind = .fixedLow ∨ (bs.get d.enBus).kind = .fixedHigh) :
    (bs.get d.enBus).read = 0 ↔ d.enabled bs = true := by
  obtain h | h := h <;> simp [Bus.read, MemDevice.enabled, h]

theorem MemDevice.wiredOk_cycle (p : Ports) (bs : Buses) (addr : Word) (rd : Bool) (d : MemDevice) (l : DataLine) :
    (d.cycle bs addr rd l).1.wiredOk p bs = d.wiredOk p bs := by
  unfold MemDevice.cycle
  split
  · split <;> rfl
  · rfl

/-- A memory device in a tick, where the address and the direction stand on its buses and `l` on its data bus, is the
device in a bus cycle (R82). -/
theorem MemDevice.evaluate_carry {p : Ports} {bs : Buses} {d : MemDevice} {addr : Word} {rd : Bool} (l : DataLine)
    (ho : bs.OutputsOk p) (hw : d.wiredOk p bs = true) (ha : (bs.get p.addr).read = addr.toNat)
    (hr : (bs.get p.rw).read = rd.toNat) :
    d.evaluate (bs.modify p.data (Bus.carry l)) =
      ((d.cycle bs addr rd l).1, bs.modify p.data (Bus.carry (d.cycle bs addr rd l).2)) := by
  obtain ⟨-, haddr, hdata, hline, hen⟩ := MemDevice.wiredOk_iff.mp hw
  have hstd := ho.standard _ (data_mem_outputs p)
  have hn := ho.nodup
  simp only [Ports.outputs, List.nodup_cons, List.mem_cons, List.not_mem_nil, or_false, not_or] at hn
  obtain ⟨⟨had, -, -⟩, ⟨hdr, -⟩, -, -⟩ := hn
  have hkinds := Buses.sameKinds_modify (f := Bus.carry l) (fun _ => rfl) bs p.data
  have hen' : ((bs.modify p.data (Bus.carry l)).get d.enBus).read = 0 ↔ d.enabled bs = true := by
    rw [MemDevice.enable_read_eq_zero_iff (by rwa [hkinds d.enBus])]
    simp only [MemDevice.enabled, hkinds d.enBus]
  have hr' : ((bs.modify p.data (Bus.carry l)).get p.rw).read = rd.toNat := by
    rwa [Buses.get_modify_ne (Ne.symm hdr)]
  have ha' : ((bs.modify p.data (Bus.carry l)).get d.addrBus).read = addr.toNat := by
    rwa [haddr, Buses.get_modify_ne had]
  have hd' : ((bs.modify p.data (Bus.carry l)).get d.dataBus).read = l.byte.toNat := by
    rw [hdata, Buses.get_modify_self (ho.has _ (data_mem_outputs p)),
      Bus.read_standard (b := (bs.get p.data).carry l) hstd]
    rfl
  have hdrive : ∀ v : Byte, (bs.modify p.data (Bus.carry l)).modify d.dataBus (Bus.write v.toNat) =
      bs.modify p.data (Bus.carry { byte := v, writers := l.writers + 1 }) := fun v => by
    rw [hdata, Buses.modify_modify]
    exact Buses.modify_congr (Bus.write_carry hstd ho.dataWidth v l)
  by_cases he : d.enabled bs = true
  · obtain hline | hline := hline
    · simp [MemDevice.evaluate, MemDevice.cycle, hen'.mpr he, he, hline, ha', hdrive]
    · cases rd <;> simp [MemDevice.evaluate, MemDevice.cycle, hen'.mpr he, he, hline, ha', hd', hr', hdrive]
  · simp only [MemDevice.evaluate, MemDevice.cycle, hen', if_neg he]

/-- The memory devices in a tick, in the order of `EVAL_ORDER`, are one bus cycle (R70, R82). -/
theorem State.evaluateAll_carry {p : Ports} {bs : Buses} {addr : Word} {rd : Bool} {order : List DeviceId}
    (hcpu : .cpu ∉ order) (ho : bs.OutputsOk p) (ha : (bs.get p.addr).read = addr.toNat)
    (hr : (bs.get p.rw).read = rd.toNat) (s : State) (hw : ∀ d ∈ s.mems, d.wiredOk p bs = true) (l : DataLine) :
    State.evaluateAll { s with buses := bs.modify p.data (Bus.carry l) } order =
      .next { s with
        mems := (memsCycle bs addr rd order s.mems l).1
        buses := bs.modify p.data (Bus.carry (memsCycle bs addr rd order s.mems l).2) } := by
  induction order generalizing s l with
  | nil => rfl
  | cons id order ih =>
    obtain ⟨hid, hcpu⟩ := List.ne_and_not_mem_of_not_mem_cons hcpu
    specialize ih hcpu
    cases id with
    | cpu => exact absurd rfl hid
    | mem k =>
      simp only [State.evaluateAll, State.evaluate, State.evaluateMem, andThen, memsCycle, memCycle]
      cases hk : s.mems[k]? with
      | none => exact ih s hw l
      | some d =>
        have hd : d.wiredOk p bs = true := hw d (List.mem_of_getElem? hk)
        simp only [MemDevice.evaluate_carry l ho hd ha hr]
        refine ih { s with mems := s.mems.set k (d.cycle bs addr rd l).1 } (fun e he => ?_) _
        obtain he | rfl := List.mem_or_eq_of_mem_set he
        · exact hw e he
        · rwa [MemDevice.wiredOk_cycle]

end Sys2Proof.Machine
end

section
/-! ### What a tick keeps of the platform -/

namespace Sys2Proof.Machine

theorem Buses.sameWiring_drive (writes : List (BusId × Nat)) (bs : Buses) : bs.SameWiring (bs.drive writes) := by
  unfold Buses.drive
  induction writes generalizing bs with
  | nil => exact Buses.SameWiring.refl bs
  | cons w ws ih => exact (Buses.sameWiring_modify (Bus.write_kind w.2) (Bus.write_width w.2) bs w.1).trans (ih _)

theorem Buses.sameWiring_advance (hold : Bool) (bs : Buses) : bs.SameWiring (bs.advance hold) := by
  cases hold
  · exact Buses.sameWiring_map Bus.advance_kind Bus.advance_width bs
  · exact Buses.SameWiring.refl bs

theorem State.startTick_sameWiring (s : State) : s.buses.SameWiring s.startTick.buses :=
  ((Buses.sameWiring_map Bus.reset_kind Bus.reset_width s.buses).trans (Buses.sameWiring_advance _ _)).trans
    (Buses.sameWiring_drive _ _)

/-- A device without its bytes: its widths and its wiring. -/
def MemDevice.frame (d : MemDevice) : MemDevice :=
  { d with cells := [] }

/-- Whether a platform is one of the instruction level depends on the parameters, the buses' kinds and widths, and the
devices' widths and wiring. -/
theorem State.platformOk_congr {s t : State} (hcfg : t.cfg = s.cfg) (hb : s.buses.SameWiring t.buses)
    (hm : t.mems.map MemDevice.frame = s.mems.map MemDevice.frame) : t.platformOk = s.platformOk := by
  have hout : ∀ id w, t.buses.outputOk id w = s.buses.outputOk id w := fun id w => by
    simp only [Buses.outputOk, hb.has, hb.kind id, hb.width]
  have hports : t.portsOk = s.portsOk := by
    simp only [State.portsOk, hcfg, hout, hb.kind _]
  have haddr : t.mems.map t.addresses = s.mems.map s.addresses := by
    have hframe : ∀ u : State, u.mems.map u.addresses = (u.mems.map MemDevice.frame).map u.addresses := fun u => by
      rw [List.map_map]; rfl
    have hfun : t.addresses = s.addresses := by funext d; simp only [State.addresses, hcfg]
    rw [hframe, hframe s, hm, hfun]
  have hwired : t.mems.all (MemDevice.wiredOk s.cfg.ports t.buses) =
      s.mems.all (MemDevice.wiredOk s.cfg.ports s.buses) := by
    have hframe : ∀ (ms : List MemDevice) (f : MemDevice → Bool), (∀ d, f d = f d.frame) →
        ms.all f = (ms.map MemDevice.frame).all f := fun ms f hf => by
      rw [List.all_map]; exact congrArg ms.all (funext hf)
    have hfun : MemDevice.wiredOk s.cfg.ports t.buses = MemDevice.wiredOk s.cfg.ports s.buses := by
      funext d; simp only [MemDevice.wiredOk, hb.kind d.enBus]
    rw [hframe t.mems _ fun _ => rfl, hframe s.mems _ fun _ => rfl, hm, hfun]
  simp only [State.platformOk, State.evalOrderOk, hcfg, hports, haddr, hwired]

/-- What a clock cycle needs of the state it starts in, and keeps: a platform and inputs of the instruction level, arrays
in canonical form, and the last bus cycle stored. -/
structure State.Ready (s : State) : Prop where
  platform : s.platformOk = true
  inputs : ∀ i ∈ s.inputs, i.sparesOutputs s.cfg.ports = true
  canonical : Canonical s.mems
  settled : s.transacted.1 = s.mems

section Ready
variable {s t : State}

theorem State.Ready.portsOk (h : s.Ready) : s.portsOk = true := (State.platformOk_iff.mp h.platform).2.2.1

theorem State.Ready.outputsOk (h : s.Ready) : s.buses.OutputsOk s.cfg.ports := State.outputsOk_of_portsOk h.portsOk

theorem State.Ready.order_nodup (h : s.Ready) : s.cfg.evalOrder.Nodup := by
  obtain ⟨ms, ho, hp⟩ := State.platformOk_order h.platform
  rw [ho, List.nodup_cons]
  refine ⟨fun hmem => ?_, hp.nodup_iff.mpr ?_⟩
  · simpa using hp.subset hmem
  · exact List.Nodup.map (fun _ _ e => DeviceId.mem.inj e) List.nodup_range

/-- The coming tick's input spares the output ports, listed or idle. -/
theorem State.Ready.nextInput (h : s.Ready) :
    (s.inputs.headD (idleInput s.cfg.ports)).sparesOutputs s.cfg.ports = true := by
  cases hi : s.inputs with
  | nil =>
    have hres := (State.portsOk_iff.mp h.portsOk).2.2.2.2.2.2.1
    simp [idleInput, TickInput.sparesOutputs, hres]
  | cons i is => exact h.inputs i (by rw [hi]; exact List.mem_cons_self)

/-- The bus cycle of the output registers does not see what stands on the buses. -/
theorem State.transacted_congr (hk : s.buses.SameKinds t.buses) (hcfg : t.cfg = s.cfg) (hm : t.mems = s.mems)
    (ha : t.cpu.oaddr = s.cpu.oaddr) (hr : t.cpu.orw = s.cpu.orw) (hd : t.cpu.odata = s.cpu.odata) :
    t.transacted = s.transacted := by
  simp only [State.transacted, memsCycle_congr hk, hcfg, hm, ha, hr, hd]

/-- A state of the same platform and memory with the same output registers is as ready. -/
theorem State.Ready.of_same (h : s.Ready) (hcfg : t.cfg = s.cfg) (hb : s.buses.SameWiring t.buses) (hm : t.mems = s.mems)
    (hi : t.inputs ⊆ s.inputs) (ha : t.cpu.oaddr = s.cpu.oaddr) (hr : t.cpu.orw = s.cpu.orw)
    (hd : t.cpu.odata = s.cpu.odata) : t.Ready where
  platform := (State.platformOk_congr hcfg hb (congrArg _ hm)).trans h.platform
  inputs i hmem := by rw [hcfg]; exact h.inputs i (hi hmem)
  canonical := by rw [hm]; exact h.canonical
  settled := by rw [State.transacted_congr hb.kind hcfg hm ha hr hd, h.settled, hm]

theorem State.Ready.lineTick (h : s.Ready) : s.startTick.latchLines.Ready :=
  h.of_same rfl s.startTick_sameWiring rfl (List.tail_subset s.inputs) rfl rfl rfl

theorem State.Ready.lineTicks (h : s.Ready) (n : Nat) : (State.lineTicks n s).Ready := by
  induction n generalizing s with
  | zero => exact h
  | succ n ih => exact ih h.lineTick

/-- A published bus cycle that is stored is the one that was published (R92). -/
theorem State.Ready.published_transacted (h : s.Ready) :
    s.published.transacted = (s.withCpu s.cpu.publish).transacted :=
  memsCycle_again h.order_nodup h.canonical _

/-- Storing the bus cycle that the CPU publishes makes a state ready for the ticks that drive it again. -/
theorem State.Ready.published (h : s.Ready) : s.published.Ready where
  platform := (State.platformOk_congr (s := s) (t := s.published) rfl (Buses.SameWiring.refl _)
    (memsCycle_shape ..)).trans h.platform
  inputs := h.inputs
  canonical := h.canonical.memsCycle _ _ _ _ _
  settled := congrArg Prod.fst h.published_transacted

end Ready

end Sys2Proof.Machine
end

section
/-! ### One tick of a ready state -/

namespace Sys2Proof.Machine

section Tick
variable {s : State}

theorem TickInput.sparesOutputs_iff {p : Ports} {i : TickInput} :
    i.sparesOutputs p = true ↔ i.holdClock = false ∧ ∀ w ∈ i.writes, w.1 ∉ p.outputs := by
  simp [TickInput.sparesOutputs]

/-- The providers leave a bus they do not write. -/
theorem Buses.get_drive_of_not_mem {writes : List (BusId × Nat)} {id : BusId} (h : ∀ w ∈ writes, w.1 ≠ id) (bs : Buses) :
    (bs.drive writes).get id = bs.get id := by
  unfold Buses.drive
  induction writes generalizing bs with
  | nil => rfl
  | cons w ws ih =>
    rw [List.forall_mem_cons] at h
    exact (ih h.2 _).trans (Buses.get_modify_ne h.1.symm _ _)

/-- T1 to T3 with an input of the instruction level: every bus reset, every clock advanced, the providers' writes. -/
theorem State.Ready.startTick_buses (h : s.Ready) :
    ∃ writes : List (BusId × Nat), (∀ w ∈ writes, w.1 ∉ s.cfg.ports.outputs) ∧
      s.startTick.buses = ((s.buses.map Bus.reset).map Bus.advance).drive writes := by
  obtain ⟨hhold, hw⟩ := TickInput.sparesOutputs_iff.mp h.nextInput
  exact ⟨_, hw, by simp only [State.startTick, hhold]; rfl⟩

/-- T1 to T3 leave an output port's bus as `reset()` does (R64): 0, no writer, the value before it in `last`. -/
theorem State.Ready.startTick_output (h : s.Ready) {id : BusId} (hid : id ∈ s.cfg.ports.outputs) :
    s.startTick.buses.get id = { s.buses.get id with value := 0, count := 0, last := (s.buses.get id).value } := by
  obtain ⟨writes, hw, hb⟩ := h.startTick_buses
  have hhas := h.outputsOk.has id hid
  rw [hb, Buses.get_drive_of_not_mem fun w hmem e => hw w hmem (e ▸ hid), Buses.get_map _ (by simpa using hhas),
    Buses.get_map _ hhas]
  simp only [Bus.reset, Bus.advance, h.outputsOk.standard id hid]

theorem Bus.write_wires (v : Nat) (b : Bus) : b.SameWires (b.write v) := by
  refine ⟨Bus.write_kind v b, Bus.write_width v b, ?_⟩
  unfold Bus.write; split <;> rfl

/-- Operations on the output ports that keep kind, width and tick counter change only what stands there. -/
theorem Buses.sameLines_onOutputs {p : Ports} {fa fr fs fd : Bus → Bus} (ha : ∀ b : Bus, b.SameWires (fa b))
    (hr : ∀ b : Bus, b.SameWires (fr b)) (hs : ∀ b : Bus, b.SameWires (fs b)) (hd : ∀ b : Bus, b.SameWires (fd b))
    (bs : Buses) :
    bs.SameLines p (bs.onOutputs p fa fr fs fd) :=
  (((Buses.sameLines_modify (addr_mem_outputs p) ha bs).trans (Buses.sameLines_modify (rw_mem_outputs p) hr _)).trans
    (Buses.sameLines_modify (sync_mem_outputs p) hs _)).trans (Buses.sameLines_modify (data_mem_outputs p) hd _)

/-- The output registers on the address and control buses, the data bus as it was. -/
def Buses.addressed (p : Ports) (c : Cpu) (bs : Buses) : Buses :=
  bs.onOutputs p (Bus.write c.oaddr.toNat) (Bus.write c.orw.toNat) (Bus.write c.osync.toNat) id

theorem Buses.driven_eq_modify_addressed (p : Ports) (c : Cpu) (l : DataLine) (bs : Buses) :
    bs.driven p c l = (bs.addressed p c).modify p.data (Bus.carry l) :=
  (Buses.modify_modify p.data id (Bus.carry l) _).symm

/-- E7 on an idle data bus: the output registers stand on their buses, and the data line is as the CPU leaves it (R154). -/
theorem Buses.driveOutputs_eq_driven {p : Ports} {bs : Buses} (ho : bs.OutputsOk p) (c : Cpu)
    (hv : (bs.get p.data).value = 0) (hc : (bs.get p.data).count = 0) :
    bs.driveOutputs p c = bs.driven p c (.start c.orw c.odata) := by
  have hstd := ho.standard _ (data_mem_outputs p)
  have hidle : bs.get p.data = (bs.get p.data).carry { byte := 0#8, writers := 0 } := by
    generalize bs.get p.data = b at hv hc
    cases b; cases hv; cases hc; rfl
  have hwrite : ∀ v : Byte, (bs.get p.data).write v.toNat = (bs.get p.data).carry { byte := v, writers := 1 } := by
    intro v
    conv_lhs => rw [hidle]
    exact Bus.write_carry hstd ho.dataWidth v _
  cases hr : c.orw with
  | true =>
    rw [Buses.driveOutputs, if_pos hr]
    exact (Buses.modify_eq_self (f := id) rfl).symm.trans
      ((Buses.SameLines.refl p bs).onOutputs_eq ho rfl rfl rfl hidle)
  | false =>
    rw [Buses.driveOutputs, if_neg (by simp [hr])]
    exact (Buses.SameLines.refl p bs).onOutputs_eq ho rfl rfl rfl (hwrite c.odata)

/-- The CPU's outputs and then the memory devices, in a tick that has put nothing on the data bus yet: the bus cycle of the
output registers. -/
theorem State.evaluateAll_driveOutputs {v : State} (hp : v.platformOk = true) {order : List DeviceId}
    (horder : v.cfg.evalOrder = .cpu :: order) (hcpu : .cpu ∉ order) (hv : (v.buses.get v.cfg.ports.data).value = 0)
    (hc : (v.buses.get v.cfg.ports.data).count = 0) : v.driveOutputs.evaluateAll order = .next v.driven := by
  have ho := State.outputsOk_of_portsOk (State.platformOk_iff.mp hp).2.2.1
  have hl : v.buses.SameLines v.cfg.ports (v.buses.addressed v.cfg.ports v.cpu) :=
    Buses.sameLines_onOutputs (Bus.write_wires _) (Bus.write_wires _) (Bus.write_wires _) .refl _
  obtain ⟨ha, hr, -, -⟩ := ho.get_onOutputs (Bus.write v.cpu.oaddr.toNat) (Bus.write v.cpu.orw.toNat)
    (Bus.write v.cpu.osync.toNat) id
  have hread : ((v.buses.addressed v.cfg.ports v.cpu).get v.cfg.ports.addr).read = v.cpu.oaddr.toNat := by
    rw [Buses.addressed, ha, Bus.read_write (ho.standard _ (addr_mem_outputs _))]
    rw [ho.addrWidth]; exact v.cpu.oaddr.isLt
  have hdir : ((v.buses.addressed v.cfg.ports v.cpu).get v.cfg.ports.rw).read = v.cpu.orw.toNat := by
    rw [Buses.addressed, hr, Bus.read_write (ho.standard _ (rw_mem_outputs _))]
    rw [ho.rwWidth]; exact Bool.toNat_lt _
  have hw : ∀ d ∈ v.mems, d.wiredOk v.cfg.ports (v.buses.addressed v.cfg.ports v.cpu) = true := fun d hd => by
    have := (State.platformOk_iff.mp hp).2.2.2 d hd
    simpa only [MemDevice.wiredOk, hl.sameKinds d.enBus] using this
  have hx : v.transacted = memsCycle (v.buses.addressed v.cfg.ports v.cpu) v.cpu.oaddr v.cpu.orw order v.mems
      (.start v.cpu.orw v.cpu.odata) := by
    rw [memsCycle_congr hl.sameKinds, State.transacted, horder]; rfl
  have hrun := State.evaluateAll_carry hcpu (hl.outputsOk ho) hread hdir v hw (.start v.cpu.orw v.cpu.odata)
  rw [← hx, ← Buses.driven_eq_modify_addressed, ← Buses.driven_eq_modify_addressed] at hrun
  rw [State.driveOutputs, Buses.driveOutputs_eq_driven ho v.cpu hv hc]
  exact hrun

end Tick

end Sys2Proof.Machine
end

section
/-! ### The clock and its edges -/

namespace Sys2Proof.Machine

section Clock
variable {s : State} {c : Cpu}

/-- The clock stands at the level `v`, `d` ticks after its last edge, and the CPU has seen that level (R69, R155). -/
structure State.ClockAt (s : State) (v : Bool) (d : Nat) : Prop where
  lastClk : s.cpu.lastClk = v
  value : (s.buses.get s.cfg.ports.clk).value = v.toNat
  div : (s.buses.get s.cfg.ports.clk).div = d

/-- The providers do not move a divided clock (R69). -/
theorem Buses.get_drive_of_dividedClock {id : BusId} {n : Nat} {bs : Buses} (h : (bs.get id).kind = .dividedClock n)
    (writes : List (BusId × Nat)) : (bs.drive writes).get id = bs.get id := by
  unfold Buses.drive
  induction writes generalizing bs with
  | nil => rfl
  | cons w ws ih =>
    have hstep : (bs.modify w.1 (Bus.write w.2)).get id = bs.get id := by
      rw [Buses.get_modify_eq_ite]
      split
      · simp only [Bus.write, h]
      · rfl
    exact (ih (by rw [hstep]; exact h)).trans hstep

theorem State.Ready.startTick_clk (h : s.Ready) :
    s.startTick.buses.get s.cfg.ports.clk = (s.buses.get s.cfg.ports.clk).reset.advance := by
  obtain ⟨writes, -, hb⟩ := h.startTick_buses
  have hk := (State.portsOk_iff.mp h.portsOk).1
  have hhas : s.buses.has s.cfg.ports.clk = true := Buses.has_of_kind_ne (by rw [hk]; simp)
  have hget : ((s.buses.map Bus.reset).map Bus.advance).get s.cfg.ports.clk =
      (s.buses.get s.cfg.ports.clk).reset.advance := by
    rw [Buses.get_map _ (by simpa using hhas), Buses.get_map _ hhas]
  rw [hb, Buses.get_drive_of_dividedClock (by rw [hget]; simpa using hk), hget]

/-- The CPU's view of the clock after the lines' part of a tick is the level of its bus. -/
theorem State.Ready.clockAt_lineTick (h : s.Ready) {v : Bool} {d : Nat}
    (hv : (s.buses.get s.cfg.ports.clk).reset.advance.value = v.toNat)
    (hd : (s.buses.get s.cfg.ports.clk).reset.advance.div = d) : s.startTick.latchLines.ClockAt v d where
  lastClk := by
    have hk := (State.portsOk_iff.mp h.portsOk).1
    show (s.startTick.buses.get s.cfg.ports.clk).level = v
    rw [h.startTick_clk, Bus.level, Bus.read, Bus.advance_kind, Bus.reset_kind, hk, hv]
    cases v <;> rfl
  value := (congrArg Bus.value h.startTick_clk).trans hv
  div := (congrArg Bus.div h.startTick_clk).trans hd

/-- Within a half of the clock's period a tick leaves its level (R69). -/
theorem State.Ready.clockAt_stay (h : s.Ready) {v : Bool} {d : Nat} (hc : s.ClockAt v d) (hd : d + 1 < s.cfg.clkDiv) :
    s.startTick.latchLines.ClockAt v (d + 1) := by
  have hk := (State.portsOk_iff.mp h.portsOk).1
  have hne : d + 1 ≠ s.cfg.clkDiv := by omega
  apply h.clockAt_lineTick <;> simp [Bus.advance, Bus.reset, hk, hc.value, hc.div, hne]

/-- The last tick of a half period toggles the clock (R69). -/
theorem State.Ready.clockAt_toggle (h : s.Ready) {v : Bool} {d : Nat} (hc : s.ClockAt v d) (hd : d + 1 = s.cfg.clkDiv) :
    s.startTick.latchLines.ClockAt (!v) 0 := by
  have hk := (State.portsOk_iff.mp h.portsOk).1
  cases v <;> apply h.clockAt_lineTick <;> simp [Bus.advance, Bus.reset, hk, hc.value, hc.div, hd]

/-- When the CPU's `evaluate()` ends with driving its outputs, the rest of the tick is their bus cycle. -/
theorem State.Ready.tick_of_evaluateCpu (h : s.Ready)
    (heval : s.startTick.evaluateCpu = .next (s.startTick.latchLines.withCpu c).driveOutputs) :
    s.tick = .next (s.startTick.latchLines.withCpu c).driven := by
  obtain ⟨order, horder, hperm⟩ := State.platformOk_order h.platform
  have hcpu : DeviceId.cpu ∉ order := fun hmem => by simpa using hperm.subset hmem
  have hdata := h.startTick_output (data_mem_outputs s.cfg.ports)
  have hp : (s.startTick.latchLines.withCpu c).platformOk = true :=
    (State.platformOk_congr (s := s) (t := s.startTick.latchLines.withCpu c) rfl
      s.startTick_sameWiring rfl).trans h.platform
  rw [State.tick, horder]
  simp only [State.evaluateAll, State.evaluate, heval, andThen]
  exact State.evaluateAll_driveOutputs hp horder hcpu (congrArg Bus.value hdata) (congrArg Bus.count hdata)

/-- A tick without an edge (R155): the lines are latched and the outputs driven again. -/
theorem State.Ready.tick_of_no_edge (h : s.Ready) {v : Bool} {d d' : Nat} (hc : s.ClockAt v d)
    (hc' : s.startTick.latchLines.ClockAt v d') : s.tick = .next s.startTick.latchLines.driven := by
  have hlast : s.startTick.cpu.lastClk = v := hc.lastClk
  have hlevel : s.startTick.level s.startTick.cfg.ports.clk = v := hc'.lastClk
  refine h.tick_of_evaluateCpu (c := s.startTick.latchLines.cpu) ?_
  simp only [State.evaluateCpu, hlast, hlevel]
  cases v <;> rfl

/-- The tick of a falling edge (R152): the staged values are published and driven. -/
theorem State.Ready.tick_of_falling (h : s.Ready) {d d' : Nat} (hc : s.ClockAt true d)
    (hc' : s.startTick.latchLines.ClockAt false d') :
    s.tick = .next (s.startTick.latchLines.withCpu s.startTick.latchLines.cpu.publish).driven := by
  have hlast : s.startTick.cpu.lastClk = true := hc.lastClk
  have hlevel : s.startTick.level s.startTick.cfg.ports.clk = false := hc'.lastClk
  refine h.tick_of_evaluateCpu ?_
  simp only [State.evaluateCpu, hlast, hlevel]
  rfl

/-- What a micro-step leaves of the state it runs in. -/
def State.after (s : State) : MicroEnd → Host.Outcome State Fault Refusal
  | .more c => .next (s.withCpu c)
  | .retired c => .next (s.withCpu c)
  | .refuse r => .refused r

/-- The rising edge's micro-step on the byte that `DATA` held in the tick before (R153). -/
def State.rise (s : State) : MicroEnd :=
  s.cpu.risingEdge s.cfg (BitVec.ofNat 8 (s.buses.get s.cfg.ports.data).last)

/-- The tick of a rising edge (R153): sample, micro-step, and the outputs driven again. -/
theorem State.Ready.tick_of_rising (h : s.Ready) {d d' : Nat} (hc : s.ClockAt false d)
    (hc' : s.startTick.latchLines.ClockAt true d') :
    s.tick = andThen (s.startTick.latchLines.after s.startTick.latchLines.rise) fun t => .next t.driven := by
  have hlast : s.startTick.cpu.lastClk = false := hc.lastClk
  have hlevel : s.startTick.level s.startTick.cfg.ports.clk = true := hc'.lastClk
  have hnext : ∀ c, (s.startTick.latchLines.rise = .more c ∨ s.startTick.latchLines.rise = .retired c) →
      s.tick = .next (s.startTick.latchLines.withCpu c).driven := fun c he => h.tick_of_evaluateCpu (by
    unfold State.rise at he
    simp only [State.evaluateCpu, hlast, hlevel]
    obtain he | he := he <;> rw [he] <;> rfl)
  cases he : s.startTick.latchLines.rise with
  | more c => exact hnext c (.inl he)
  | retired c => exact hnext c (.inr he)
  | refuse r =>
    obtain ⟨order, horder, -⟩ := State.platformOk_order h.platform
    have heval : s.startTick.evaluateCpu = .refused r := by
      unfold State.rise at he
      simp only [State.evaluateCpu, hlast, hlevel]
      rw [he]; rfl
    rw [State.tick, horder]
    simp only [State.evaluateAll, State.evaluate, heval, andThen, State.after]

end Clock

end Sys2Proof.Machine
end

section
/-! ### One clock cycle is its ticks (R160, R434) -/

namespace Sys2Proof.Machine

/-- The state with other buses, everything else as it was. -/
def State.withBuses (bs : Buses) (s : State) : State :=
  { s with buses := bs }

/-- The output ports' buses hold the output registers and the data line of their bus cycle. -/
structure State.Carries (s : State) : Prop where
  addr : (s.buses.get s.cfg.ports.addr).value = s.cpu.oaddr.toNat &&& (s.buses.get s.cfg.ports.addr).mask
  rw : (s.buses.get s.cfg.ports.rw).value = s.cpu.orw.toNat &&& (s.buses.get s.cfg.ports.rw).mask
  sync : (s.buses.get s.cfg.ports.sync).value = s.cpu.osync.toNat &&& (s.buses.get s.cfg.ports.sync).mask
  data : (s.buses.get s.cfg.ports.data).value = s.transacted.2.byte.toNat

section Cycle
variable {s : State} {bs : Buses}

theorem Buses.SameLines.drive {p : Ports} {b1 b2 : Buses} (h : b1.SameLines p b2) {writes : List (BusId × Nat)}
    (hw : ∀ w ∈ writes, w.1 ∉ p.outputs) : (b1.drive writes).SameLines p (b2.drive writes) := by
  unfold Buses.drive
  induction writes generalizing b1 b2 with
  | nil => exact h
  | cons w ws ih =>
    rw [List.forall_mem_cons] at hw
    exact ih (h.modify hw.1 _) hw.2

theorem State.Ready.withBuses (h : s.Ready) (hl : s.buses.SameLines s.cfg.ports bs) : (s.withBuses bs).Ready :=
  h.of_same rfl hl.sameWiring rfl (fun _ hi => hi) rfl rfl rfl

theorem State.ClockAt.withBuses {v : Bool} {d : Nat} (h : s.Ready) (hc : s.ClockAt v d)
    (hl : s.buses.SameLines s.cfg.ports bs) : (s.withBuses bs).ClockAt v d := by
  have hget : bs.get s.cfg.ports.clk = s.buses.get s.cfg.ports.clk := hl.off _ (State.clk_not_mem_outputs h.portsOk)
  exact ⟨hc.lastClk, (congrArg Bus.value hget).trans hc.value, (congrArg Bus.div hget).trans hc.div⟩

/-- T1 to E4 do not see what stands on the output ports' buses, and take it to `last`. -/
theorem State.Ready.lineTick_withBuses (h : s.Ready) (hl : s.buses.SameLines s.cfg.ports bs) :
    ∃ bs', (s.withBuses bs).startTick.latchLines = s.startTick.latchLines.withBuses bs' ∧
      s.startTick.latchLines.buses.SameLines s.cfg.ports bs' ∧
      ∀ id ∈ s.cfg.ports.outputs, bs'.get id = { bs.get id with value := 0, count := 0, last := (bs.get id).value } := by
  have hlines : s.startTick.buses.SameLines s.cfg.ports (s.withBuses bs).startTick.buses := by
    obtain ⟨hhold, hw⟩ := TickInput.sparesOutputs_iff.mp h.nextInput
    have hstd : (s.buses.map Bus.reset).OutputsOk s.cfg.ports :=
      h.outputsOk.of_sameWiring (Buses.sameWiring_map Bus.reset_kind Bus.reset_width _)
    have hmap := (hl.map h.outputsOk (f := Bus.reset) fun b hb =>
        ⟨Bus.reset_kind b, Bus.reset_width b, by simp only [Bus.reset, hb]⟩).map hstd
      (f := Bus.advance) fun b hb => by simp only [Bus.advance, hb]; exact .refl b
    simp only [State.startTick, State.withBuses, hhold]
    exact hmap.drive hw
  have hports := State.portsOk_iff.mp h.portsOk
  obtain ⟨-, -, -, -, -, -, hres, hnmi, hirq⟩ := hports
  have hlevel : ∀ id, id ∉ s.cfg.ports.outputs → (s.withBuses bs).startTick.level id = s.startTick.level id :=
    fun id hid => congrArg Bus.level (hlines.off id hid)
  refine ⟨(s.withBuses bs).startTick.buses, ?_, hlines, fun id hid => (h.withBuses hl).startTick_output hid⟩
  have hcpu : (s.withBuses bs).startTick.latchLines.cpu = s.startTick.latchLines.cpu := by
    show s.cpu.latch _ _ _ _ = s.cpu.latch _ _ _ _
    congr 1
    · exact hlevel _ (State.clk_not_mem_outputs h.portsOk)
    · exact hlevel _ hnmi
    · exact hlevel _ hirq
    · exact hlevel _ hres
  exact congrArg (fun c => { s.startTick with cpu := c, buses := (s.withBuses bs).startTick.buses }) hcpu

/-- The end of a tick does not see what stood on the output ports' buses. -/
theorem State.driven_withBuses (hk : s.buses.SameKinds bs) :
    (s.withBuses bs).driven = s.stored.withBuses (bs.driven s.cfg.ports s.cpu s.transacted.2) := by
  have hx : (s.withBuses bs).transacted = s.transacted := State.transacted_congr hk rfl rfl rfl rfl rfl
  simp only [State.driven, State.stored, hx]
  rfl

theorem Buses.driven_sameLines (p : Ports) (c : Cpu) (l : DataLine) (bs : Buses) : bs.SameLines p (bs.driven p c l) :=
  Buses.sameLines_onOutputs (Bus.write_wires _) (Bus.write_wires _) (Bus.write_wires _)
    (fd := Bus.carry l) (fun _ => ⟨rfl, rfl, rfl⟩) bs

/-- A tick ends with the bus cycle stored and on the buses, whatever stood there before; `hx` says that storing it once
more would change nothing. -/
theorem State.driven_carries (ho : s.buses.OutputsOk s.cfg.ports) (hl : s.buses.SameLines s.cfg.ports bs)
    (hx : s.stored.transacted = s.transacted) :
    ∃ bs', (s.withBuses bs).driven = s.stored.withBuses bs' ∧ s.buses.SameLines s.cfg.ports bs' ∧
      (s.stored.withBuses bs').Carries := by
  have hl' := hl.trans (Buses.driven_sameLines s.cfg.ports s.cpu s.transacted.2 bs)
  refine ⟨_, State.driven_withBuses hl.sameKinds, hl', ?_⟩
  have hob := hl.outputsOk ho
  obtain ⟨ha, hr, hs, hd⟩ := hob.get_onOutputs (Bus.write s.cpu.oaddr.toNat) (Bus.write s.cpu.orw.toNat)
    (Bus.write s.cpu.osync.toNat) (Bus.carry s.transacted.2)
  have hwrite : ∀ v, ∀ id ∈ s.cfg.ports.outputs, ((bs.get id).write v).value = v &&& ((bs.get id).write v).mask :=
    fun v id hid => by rw [Bus.write_standard (hob.standard id hid)]; rfl
  have hx' : (s.stored.withBuses (bs.driven s.cfg.ports s.cpu s.transacted.2)).transacted = s.transacted :=
    (State.transacted_congr (s := s.stored) (t := s.stored.withBuses (bs.driven s.cfg.ports s.cpu s.transacted.2))
      hl'.sameKinds rfl rfl rfl rfl rfl).trans hx
  refine ⟨?_, ?_, ?_, ?_⟩
  · exact ha ▸ hwrite _ _ (addr_mem_outputs _)
  · exact hr ▸ hwrite _ _ (rw_mem_outputs _)
  · exact hs ▸ hwrite _ _ (sync_mem_outputs _)
  · rw [hx']; exact congrArg Bus.value hd

theorem State.Ready.stored_eq (h : s.Ready) : s.stored = s :=
  congrArg (fun m => { s with mems := m }) h.settled

/-- Ticks without an edge (R155): the lines' ticks, with the same bus cycle on the output ports' buses. -/
theorem State.Ready.ticks_quiet (h : s.Ready) (hl : s.buses.SameLines s.cfg.ports bs) {v : Bool} {d k : Nat}
    (hc : s.ClockAt v d) (hk : d + k < s.cfg.clkDiv) :
    ∃ bs', (s.withBuses bs).ticks k = .next ((State.lineTicks k s).withBuses bs') ∧
      (State.lineTicks k s).buses.SameLines (State.lineTicks k s).cfg.ports bs' ∧
      ((s.withBuses bs).Carries → ((State.lineTicks k s).withBuses bs').Carries) := by
  induction k generalizing s bs d with
  | zero => exact ⟨bs, rfl, hl, fun hcar => hcar⟩
  | succ k ih =>
    have h1 := h.lineTick
    have hc1 := h.clockAt_stay hc (by omega)
    obtain ⟨b1, heq, hl1, -⟩ := h.lineTick_withBuses hl
    obtain ⟨b2, hdriven, hl2, hcar⟩ := State.driven_carries h1.outputsOk hl1 (by rw [h1.stored_eq])
    rw [h1.stored_eq] at hdriven hcar
    have htick : (s.withBuses bs).tick = .next (s.startTick.latchLines.withBuses b2) := by
      rw [(h.withBuses hl).tick_of_no_edge (hc.withBuses h hl) (heq ▸ hc1.withBuses h1 hl1), heq, hdriven]
    obtain ⟨b3, hticks, hl3, hcar3⟩ := ih h1 hl2 hc1 (by rw [show d + 1 + k = d + (k + 1) by omega]; exact hk)
    refine ⟨b3, ?_, hl3, fun _ => hcar3 hcar⟩
    simp only [State.ticks, htick, andThen]
    exact hticks

/-- The tick of a falling edge: the staged bus cycle is published, stored and on the buses (R152). -/
theorem State.Ready.tick_falling_withBuses (h : s.Ready) (hl : s.buses.SameLines s.cfg.ports bs) {d : Nat}
    (hc : s.ClockAt true d) (hd : d + 1 = s.cfg.clkDiv) :
    ∃ bs', (s.withBuses bs).tick = .next (s.startTick.latchLines.published.withBuses bs') ∧
      s.startTick.latchLines.published.buses.SameLines s.startTick.latchLines.published.cfg.ports bs' ∧
      (s.startTick.latchLines.published.withBuses bs').Carries := by
  have h1 := h.lineTick
  have hc1 := h.clockAt_toggle hc hd
  obtain ⟨b1, heq, hl1, -⟩ := h.lineTick_withBuses hl
  obtain ⟨b2, hdriven, hl2, hcar⟩ := State.driven_carries
    (s := s.startTick.latchLines.withCpu s.startTick.latchLines.cpu.publish) h1.outputsOk hl1
    h1.published_transacted
  refine ⟨b2, ?_, hl2, hcar⟩
  rw [(h.withBuses hl).tick_of_falling (hc.withBuses h hl) (heq ▸ hc1.withBuses h1 hl1), heq]
  exact congrArg _ hdriven

/-! #### The rising edge -/

/-- The micro-step of a CPU that has sampled and dispatched. -/
def State.micro (s : State) : MicroEnd :=
  (microStep s.cfg s.cpu).count s.cpu.cyc

/-- E6 before its micro-step: in a cycle 0, dispatch (R153, R157). -/
def State.entered (s : State) : State :=
  if s.cpu.cyc = 0 then s.withCpu s.cpu.dispatch else s

/-- The state in which a bus cycle that stands on the buses ends: the data line sampled, the outputs held. -/
def State.sampled (s : State) : State :=
  { s with
    cpu := { s.cpu with dbuf := s.transacted.2.byte }
    buses := s.buses.holdOutputs s.cfg.ports s.cpu s.transacted.2 }

/-- What no micro-step touches: the output registers, the selector and the clock's tracker. -/
structure Pins where
  oaddr : Word
  odata : Byte
  orw : Bool
  osync : Bool
  ir : Selector
  lastClk : Bool

/-- What no micro-step touches, of a CPU. -/
def Cpu.pins (c : Cpu) : Pins :=
  { oaddr := c.oaddr, odata := c.odata, orw := c.orw, osync := c.osync, ir := c.ir, lastClk := c.lastClk }

/-- A micro-step's end leaves the pins as they are in `c`. -/
def MicroEnd.KeepsPins (c : Cpu) : MicroEnd → Prop
  | .more c' => c'.pins = c.pins
  | .retired c' => c'.pins = c.pins
  | .refuse _ => True

/-- A bus written again as in the tick before is the bus after a clock cycle. -/
theorem Bus.write_eq_held {b b' : Bus} {v : Nat} (hk : b'.kind = .standard) (hw : b.SameWires b')
    (hcount : b'.count = 0) (hlast : b'.last = v &&& b'.mask) : b'.write v = b.held v := by
  obtain ⟨h1, h2, h3⟩ := hw
  rw [Bus.write_standard hk]
  cases b; cases b'
  simp only [Bus.held, Bus.mask, Bus.mk.injEq] at *
  simp [h1, h2, h3, hcount, hlast]

theorem Bus.carry_eq_heldLine {b b' : Bus} {l : DataLine} (hw : b.SameWires b')
    (hlast : b'.last = l.byte.toNat) : b'.carry l = b.heldLine l := by
  obtain ⟨h1, h2, h3⟩ := hw
  cases b; cases b'
  simp only [Bus.carry, Bus.heldLine, Bus.mk.injEq] at *
  simp [h1, h2, h3, hlast]

theorem State.entered_withCpu (s : State) (c : Cpu) : s.entered.withCpu c = s.withCpu c := by
  unfold State.entered; split <;> rfl

/-- E6 on the byte that stands on the data line is the micro-step of the sampled state (R153). -/
theorem State.rise_withBuses (h : (bs.get s.cfg.ports.data).last = s.transacted.2.byte.toNat) :
    (s.withBuses bs).rise = s.sampled.entered.micro := by
  have hsample : BitVec.ofNat 8 (bs.get s.cfg.ports.data).last = s.transacted.2.byte := by rw [h]; simp
  show s.cpu.risingEdge s.cfg (BitVec.ofNat 8 (bs.get s.cfg.ports.data).last) = _
  rw [hsample, State.entered]
  by_cases hcyc : s.cpu.cyc = 0
  · rw [if_pos (show s.sampled.cpu.cyc = 0 from hcyc)]
    simp only [Cpu.risingEdge, if_pos hcyc]
    rfl
  · rw [if_neg (show ¬ s.sampled.cpu.cyc = 0 from hcyc)]
    simp only [Cpu.risingEdge, if_neg hcyc]
    rfl

theorem State.entered_pins (s : State) : s.entered.cpu.oaddr = s.cpu.oaddr ∧ s.entered.cpu.odata = s.cpu.odata ∧
    s.entered.cpu.orw = s.cpu.orw ∧ s.entered.cpu.osync = s.cpu.osync := by
  unfold State.entered; split <;> exact ⟨rfl, rfl, rfl, rfl⟩

/-- Driving the same outputs as in the tick before ends in the buses of a clock cycle, whatever the micro-step did to the
rest of the CPU. -/
theorem State.Ready.driven_withCpu (h : s.Ready) (hl : s.buses.SameLines s.cfg.ports bs)
    (hidle : ∀ id ∈ s.cfg.ports.outputs, (bs.get id).count = 0)
    (hlast : (bs.get s.cfg.ports.addr).last = s.cpu.oaddr.toNat &&& (bs.get s.cfg.ports.addr).mask ∧
      (bs.get s.cfg.ports.rw).last = s.cpu.orw.toNat &&& (bs.get s.cfg.ports.rw).mask ∧
      (bs.get s.cfg.ports.sync).last = s.cpu.osync.toNat &&& (bs.get s.cfg.ports.sync).mask ∧
      (bs.get s.cfg.ports.data).last = s.transacted.2.byte.toNat)
    {c : Cpu} (hc : c.pins = s.sampled.entered.cpu.pins) :
    ((s.withBuses bs).withCpu c).driven = s.sampled.entered.withCpu c := by
  obtain ⟨ea, ed, er, es⟩ := s.sampled.entered_pins
  have ha : c.oaddr = s.cpu.oaddr := (congrArg Pins.oaddr hc).trans ea
  have hd : c.odata = s.cpu.odata := (congrArg Pins.odata hc).trans ed
  have hr : c.orw = s.cpu.orw := (congrArg Pins.orw hc).trans er
  have hs : c.osync = s.cpu.osync := (congrArg Pins.osync hc).trans es
  obtain ⟨la, lr, ls, ldata⟩ := hlast
  have hstd := (hl.outputsOk h.outputsOk).standard
  have hx : ((s.withBuses bs).withCpu c).transacted = s.transacted :=
    State.transacted_congr hl.sameKinds rfl rfl ha hr hd
  have hbuses : bs.driven s.cfg.ports c s.transacted.2 = s.buses.holdOutputs s.cfg.ports s.cpu s.transacted.2 :=
    hl.onOutputs_eq h.outputsOk
      (by rw [ha]; exact Bus.write_eq_held (hstd _ (addr_mem_outputs _)) (hl.wires _) (hidle _ (addr_mem_outputs _)) la)
      (by rw [hr]; exact Bus.write_eq_held (hstd _ (rw_mem_outputs _)) (hl.wires _) (hidle _ (rw_mem_outputs _)) lr)
      (by rw [hs]; exact Bus.write_eq_held (hstd _ (sync_mem_outputs _)) (hl.wires _) (hidle _ (sync_mem_outputs _)) ls)
      (Bus.carry_eq_heldLine (hl.wires _) ldata)
  rw [State.entered_withCpu]
  simp only [State.driven, State.stored, hx, h.settled]
  exact congrArg (fun b => (s.withBuses b).withCpu c) hbuses

/-- The tick of a rising edge: the micro-step of the sampled bus cycle, which stays on the buses (R153, R161). -/
theorem State.Ready.tick_rising_withBuses (h : s.Ready) (hl : s.buses.SameLines s.cfg.ports bs) (hcar : (s.withBuses bs).Carries)
    {d : Nat} (hc : s.ClockAt false d) (hd : d + 1 = s.cfg.clkDiv)
    (hpins : MicroEnd.KeepsPins s.startTick.latchLines.sampled.entered.cpu s.startTick.latchLines.sampled.entered.micro) :
    (s.withBuses bs).tick =
      s.startTick.latchLines.sampled.entered.after s.startTick.latchLines.sampled.entered.micro := by
  have h1 := h.lineTick
  have hc1 := h.clockAt_toggle hc hd
  obtain ⟨b1, heq, hl1, hout⟩ := h.lineTick_withBuses hl
  have hx : (s.withBuses bs).transacted = s.startTick.latchLines.transacted := by
    rw [State.transacted_congr (s := s) (t := s.withBuses bs) hl.sameKinds rfl rfl rfl rfl rfl]
    exact (State.transacted_congr s.startTick_sameKinds rfl rfl rfl rfl rfl).symm
  have hlast : ∀ id ∈ s.cfg.ports.outputs, (b1.get id).last = (bs.get id).value ∧ (b1.get id).mask = (bs.get id).mask :=
    fun id hid => by rw [hout id hid]; exact ⟨rfl, rfl⟩
  obtain ⟨la, ma⟩ := hlast _ (addr_mem_outputs _)
  obtain ⟨lr, mr⟩ := hlast _ (rw_mem_outputs _)
  obtain ⟨ls, ms⟩ := hlast _ (sync_mem_outputs _)
  have hdata := (hlast _ (data_mem_outputs _)).1.trans (hcar.data.trans (by rw [hx]))
  have hdriven : ∀ c, c.pins = s.startTick.latchLines.sampled.entered.cpu.pins →
      ((s.startTick.latchLines.withBuses b1).withCpu c).driven = s.startTick.latchLines.sampled.entered.withCpu c :=
    fun c => h1.driven_withCpu hl1 (fun id hid => congrArg Bus.count (hout id hid))
      ⟨la.trans (ma ▸ hcar.addr), lr.trans (mr ▸ hcar.rw), ls.trans (ms ▸ hcar.sync), hdata⟩
  rw [(h.withBuses hl).tick_of_rising (hc.withBuses h hl) (heq ▸ hc1.withBuses h1 hl1), heq,
    State.rise_withBuses hdata]
  cases he : s.startTick.latchLines.sampled.entered.micro with
  | more c => rw [he] at hpins; exact congrArg _ (hdriven c hpins)
  | retired c => rw [he] at hpins; exact congrArg _ (hdriven c hpins)
  | refuse r => rfl

/-! #### The four phases of a clock cycle put together -/

theorem State.ticks_add (a b : Nat) (s : State) : s.ticks (a + b) = andThen (s.ticks a) (State.ticks b) := by
  induction a generalizing s with
  | zero => rw [Nat.zero_add]; rfl
  | succ a ih =>
    rw [Nat.succ_add]
    simp only [State.ticks]
    cases s.tick with
    | next t => exact ih t
    | fault r => rfl
    | refused r => rfl

theorem State.ticks_one (s : State) : s.ticks 1 = s.tick := by
  simp only [State.ticks]
  cases s.tick <;> rfl

/-- Ticks that go on are followed by the rest of the ticks. -/
theorem State.ticks_add_of_next {a : Nat} {s t : State} (h : s.ticks a = .next t) (b : Nat) :
    s.ticks (a + b) = t.ticks b := by
  rw [State.ticks_add, h]; rfl

theorem State.lineTicks_succ (n : Nat) (s : State) :
    State.lineTicks (n + 1) s = (State.lineTicks n s).startTick.latchLines := by
  induction n generalizing s with
  | zero => rfl
  | succ n ih => exact ih s.startTick.latchLines

theorem State.lineTicks_add (a b : Nat) (s : State) :
    State.lineTicks (a + b) s = State.lineTicks b (State.lineTicks a s) := by
  induction a generalizing s with
  | zero => rw [Nat.zero_add]; rfl
  | succ a ih => rw [Nat.succ_add]; exact ih s.startTick.latchLines

/-- Ticks within a half period leave the clock's level. -/
theorem State.Ready.clockAt_lineTicks (h : s.Ready) {v : Bool} {d k : Nat} (hc : s.ClockAt v d)
    (hk : d + k < s.cfg.clkDiv) : (State.lineTicks k s).ClockAt v (d + k) := by
  induction k with
  | zero => exact hc
  | succ k ih =>
    rw [State.lineTicks_succ]
    exact (h.lineTicks k).clockAt_stay (ih (by omega)) (by rw [(State.lineTicks_kept k s).cfg]; exact hk)

/-- `CLK_DIV` ticks after an edge the clock has the other edge (R69, R434). -/
theorem State.Ready.clockAt_half (h : s.Ready) {v : Bool} (hc : s.ClockAt v 0) :
    (State.lineTicks s.cfg.clkDiv s).ClockAt (!v) 0 := by
  have hclk : 1 ≤ s.cfg.clkDiv := of_decide_eq_true (State.platformOk_iff.mp h.platform).1
  obtain ⟨n, hn⟩ : ∃ n, s.cfg.clkDiv = n + 1 := ⟨s.cfg.clkDiv - 1, by omega⟩
  rw [hn, State.lineTicks_succ]
  exact (h.lineTicks n).clockAt_toggle (h.clockAt_lineTicks hc (by omega))
    (by rw [(State.lineTicks_kept n s).cfg]; omega)

/-- Publishing and storing commute with the ticks of the lines. -/
theorem State.lineTicks_published (n : Nat) (s : State) :
    State.lineTicks n s.published = (State.lineTicks n s).published := by
  induction n generalizing s with
  | zero => rfl
  | succ n ih =>
    have hstep : s.published.startTick.latchLines = s.startTick.latchLines.published := by
      have hx : (s.withCpu s.cpu.publish).transacted =
          (s.startTick.latchLines.withCpu s.startTick.latchLines.cpu.publish).transacted :=
        (State.transacted_congr (s := s.withCpu s.cpu.publish)
          (t := s.startTick.latchLines.withCpu s.startTick.latchLines.cpu.publish)
          s.startTick_sameKinds rfl rfl rfl rfl rfl).symm
      exact congrArg (fun x => { s.startTick.latchLines with cpu := s.startTick.latchLines.cpu.publish, mems := x.1 }) hx
    exact (congrArg (State.lineTicks n) hstep).trans (ih _)

/-- A clock cycle is its ticks of the lines, and then its bus cycle published, stored, sampled and held. -/
theorem State.Ready.clockCycle_eq (h : s.Ready) :
    s.clockCycle = (State.lineTicks (2 * s.cfg.clkDiv) s).published.sampled := by
  rw [State.sampled, (h.lineTicks _).published_transacted]
  rfl

/-- A clock cycle ends in a state ready for the next one. -/
theorem State.Ready.clockCycle (h : s.Ready) : s.clockCycle.Ready := by
  rw [h.clockCycle_eq]
  exact (h.lineTicks _).published.of_same rfl
    (Buses.sameLines_onOutputs (p := (State.lineTicks (2 * s.cfg.clkDiv) s).published.cfg.ports)
      (fa := Bus.held _) (fr := Bus.held _) (fs := Bus.held _) (fd := Bus.heldLine _) (fun _ => ⟨rfl, rfl, rfl⟩)
      (fun _ => ⟨rfl, rfl, rfl⟩) (fun _ => ⟨rfl, rfl, rfl⟩) (fun _ => ⟨rfl, rfl, rfl⟩) _).sameWiring
    rfl (fun _ hi => hi) rfl rfl rfl

/-- A clock cycle ends just after a rising edge, as it began. -/
theorem State.Ready.clockAt_clockCycle (h : s.Ready) (hc : s.ClockAt true 0) : s.clockCycle.ClockAt true 0 := by
  have hcfg := (State.lineTicks_kept s.cfg.clkDiv s).cfg
  have hc1 := (h.lineTicks s.cfg.clkDiv).clockAt_half (h.clockAt_half hc)
  rw [hcfg, ← State.lineTicks_add, ← Nat.two_mul] at hc1
  have hget := Buses.get_holdOutputs (State.clk_not_mem_outputs (h.lineTicks (2 * s.cfg.clkDiv)).portsOk)
    (State.lineTicks (2 * s.cfg.clkDiv) s).published.cpu (State.lineTicks (2 * s.cfg.clkDiv) s).published.transacted.2
    (State.lineTicks (2 * s.cfg.clkDiv) s).buses
  rw [h.clockCycle_eq]
  exact ⟨hc1.lastClk, (congrArg Bus.value hget).trans hc1.value, (congrArg Bus.div hget).trans hc1.div⟩

/-- The ticks of one clock cycle, from just after a rising edge to the next one: the clock cycle of the instruction level
and the micro-step at its end, or the micro-step's refusal (R160, R434). -/
theorem State.Ready.ticks_clockCycle (h : s.Ready) (hc : s.ClockAt true 0)
    (hpins : MicroEnd.KeepsPins s.clockCycle.entered.cpu s.clockCycle.entered.micro) :
    s.ticks (2 * s.cfg.clkDiv) = s.clockCycle.entered.after s.clockCycle.entered.micro := by
  have hclk : 1 ≤ s.cfg.clkDiv := of_decide_eq_true (State.platformOk_iff.mp h.platform).1
  obtain ⟨n, hn⟩ : ∃ n, s.cfg.clkDiv = n + 1 := ⟨s.cfg.clkDiv - 1, by omega⟩
  have hcfg : ∀ (k : Nat) (t : State), (State.lineTicks k t).cfg = t.cfg := fun k t => (State.lineTicks_kept k t).cfg
  -- the rest of the high half, with the old outputs
  obtain ⟨b1, ht1, hl1, -⟩ := h.ticks_quiet (k := n) (Buses.SameLines.refl _ _) hc (by omega)
  -- the falling edge
  obtain ⟨b2, ht2, hl2, hcar2⟩ := (h.lineTicks n).tick_falling_withBuses hl1 (h.clockAt_lineTicks hc (by omega))
    (by rw [hcfg]; omega)
  rw [← State.lineTicks_succ] at ht2 hl2 hcar2
  -- the rest of the low half, with the new outputs
  have h2 := (h.lineTicks (n + 1)).published
  have hclk2 : (State.lineTicks (n + 1) s).published.cfg.clkDiv = n + 1 := (congrArg _ (hcfg (n + 1) s)).trans hn
  have hc2 : (State.lineTicks (n + 1) s).published.ClockAt false 0 := by
    obtain ⟨hlast, hvalue, hdiv⟩ := hn ▸ h.clockAt_half hc
    exact ⟨hlast, hvalue, hdiv⟩
  obtain ⟨b3, ht3, hl3, hcar3⟩ := h2.ticks_quiet (k := n) hl2 hc2 (by rw [hclk2]; omega)
  -- the rising edge
  have hend : (State.lineTicks n (State.lineTicks (n + 1) s).published).startTick.latchLines.sampled = s.clockCycle := by
    rw [h.clockCycle_eq, ← State.lineTicks_succ, State.lineTicks_published, ← State.lineTicks_add, hn,
      show n + 1 + (n + 1) = 2 * (n + 1) by omega]
  have ht4 := (h2.lineTicks n).tick_rising_withBuses hl3 (hcar3 hcar2) (h2.clockAt_lineTicks hc2 (by rw [hclk2]; omega))
    (by rw [hcfg, hclk2]; omega) (by rwa [hend])
  rw [hend] at ht4
  calc s.ticks (2 * s.cfg.clkDiv)
      = s.ticks (n + (1 + (n + 1))) := by rw [show 2 * s.cfg.clkDiv = n + (1 + (n + 1)) by omega]
    _ = ((State.lineTicks n s).withBuses b1).ticks (1 + (n + 1)) := State.ticks_add_of_next ht1 _
    _ = ((State.lineTicks (n + 1) s).published.withBuses b2).ticks (n + 1) :=
      State.ticks_add_of_next ((State.ticks_one _).trans ht2) _
    _ = ((State.lineTicks n (State.lineTicks (n + 1) s).published).withBuses b3).ticks 1 := State.ticks_add_of_next ht3 _
    _ = s.clockCycle.entered.after s.clockCycle.entered.micro := (State.ticks_one _).trans ht4

end Cycle
end Sys2Proof.Machine
end

section
/-! ### Every sequence runs to its end, and no micro-step touches what the bus cycle needs (R153, R156) -/

namespace Sys2Proof.Machine

/-- A micro-step's end that is the end of its instruction too. -/
def MicroEnd.Stops : MicroEnd → Prop
  | .more _ => False
  | .retired _ => True
  | .refuse _ => True

/-- A sequence that runs to its end: no micro-step touches the pins, and the last one retires or refuses. -/
inductive ProperSequence : List Micro → Prop
  | last {u : Micro} (hpins : ∀ c, (u c).KeepsPins c) (hstops : ∀ c, (u c).Stops) : ProperSequence [u]
  | cons {u : Micro} {us : List Micro} (hpins : ∀ c, (u c).KeepsPins c) (hus : ProperSequence us) :
    ProperSequence (u :: us)

namespace ProperSequence
variable {cfg : Config} {m : AddrMode}

/-- A last micro-step that always retires. -/
theorem retires {f : Cpu → Cpu} (h : ∀ c, (f c).pins = c.pins) : ProperSequence [fun c => .retired (f c).retire] :=
  .last (fun c => h c) fun _ => trivial

/-- Address formation before a proper rest, whatever it stages (R163 to R168). -/
theorem formation {stage : Word → Cpu → Cpu} (hstage : ∀ w c, (stage w c).pins = c.pins) {us : List Micro}
    (hus : ProperSequence us) : ProperSequence (formation m stage ++ us) := by
  cases m with
  | zp => exact .cons (fun c => hstage _ c.incPc) hus
  | zpx | zpy => exact .cons (fun _ => rfl) (.cons (fun c => hstage _ c) hus)
  | abs | abx | aby => exact .cons (fun _ => rfl) (.cons (fun c => hstage _ c.incPc) hus)
  | inx => exact .cons (fun _ => rfl) (.cons (fun _ => rfl) (.cons (fun _ => rfl) (.cons (fun c => hstage _ c) hus)))
  | iny => exact .cons (fun _ => rfl) (.cons (fun _ => rfl) (.cons (fun c => hstage _ c) hus))

/-- The last micro-step of class R (R171, R224): the operation, on a CPU with the same pins. -/
theorem readEnd {op : ReadOp} (hop : ∀ v c c', op v c = .ok c' → c'.pins = c.pins) {f : Cpu → Cpu}
    (hf : ∀ c, (f c).pins = c.pins) : ProperSequence [fun c => readEnd op (f c)] := by
  refine .last (fun c => ?_) (fun c => ?_)
  · unfold Machine.readEnd
    cases h : op (f c).dbuf (f c) with
    | ok c' => exact (hop _ _ _ h).trans (hf c)
    | error r => trivial
  · unfold Machine.readEnd
    cases op (f c).dbuf (f c) <;> trivial

theorem read {op : ReadOp} (hop : ∀ v c c', op v c = .ok c' → c'.pins = c.pins) : ProperSequence (seqRead m op) :=
  .cons (fun _ => rfl) (formation (m := m) (stage := Cpu.fetch) (fun _ _ => rfl) (readEnd hop (f := id) fun _ => rfl))

theorem readImm {op : ReadOp} (hop : ∀ v c c', op v c = .ok c' → c'.pins = c.pins) : ProperSequence (seqReadImm op) :=
  .cons (fun _ => rfl) (readEnd hop fun _ => rfl)

theorem write {r : Cpu → Byte} : ProperSequence (seqWrite m r) :=
  .cons (fun _ => rfl) (formation (m := m) (stage := fun ea c => c.store ea (r c)) (fun _ _ => rfl)
    (retires (f := id) fun _ => rfl))

theorem modify {f : ModifyOp} (hf : ∀ v c, (f v c).2.pins = c.pins) : ProperSequence (seqModify m f) :=
  .cons (fun _ => rfl) (formation (m := m) (stage := Cpu.fetch) (fun _ _ => rfl)
    (.cons (fun _ => rfl) (.cons (fun c => hf c.tmp c) (retires (f := id) fun _ => rfl))))

theorem accumulator {f : ModifyOp} (hf : ∀ v c, (f v c).2.pins = c.pins) : ProperSequence (seqAccumulator f) :=
  .cons (fun _ => rfl) (retires fun c => hf c.a c)

theorem implied {act : Cpu → Cpu} (hact : ∀ c, (act c).pins = c.pins) : ProperSequence (seqImplied act) :=
  .cons (fun _ => rfl) (retires hact)

theorem branch {cond : Cpu → Bool} : ProperSequence (seqBranch cond) := by
  refine .cons (fun _ => rfl) (.cons (fun c => ?_)
    (retires (f := fun c => { c with pc := c.pc + sext16 c.tmp }) fun _ => rfl))
  cases cond c <;> rfl

theorem push {v : Cpu → Byte} : ProperSequence (seqPush cfg v) :=
  .cons (fun _ => rfl) (.cons (fun _ => rfl) (retires (f := id) fun _ => rfl))

theorem pull {take : Byte → Cpu → Cpu} (htake : ∀ v c, (take v c).pins = c.pins) : ProperSequence (seqPull cfg take) :=
  .cons (fun _ => rfl) (.cons (fun _ => rfl) (.cons (fun _ => rfl) (retires fun c => htake c.dbuf c)))

/-- The exception entry without its first push (R340, R366, R367). -/
theorem entryTail {e : Entry} : ProperSequence (entrySequence cfg e).tail := by
  have hstatus : ∀ c, (e.pushStatus cfg c).pins = c.pins := fun c => by
    unfold Entry.pushStatus
    cases e.maskAtPush <;> rfl
  have hmask : ∀ c, (e.mask c).pins = c.pins := fun c => by unfold Entry.mask; split <;> rfl
  have hcomplete : ∀ c, (e.complete c).pins = c.pins := fun c => by unfold Entry.complete; split <;> rfl
  exact .cons (fun _ => rfl) (.cons hstatus (.cons (fun c => hmask c) (.cons (fun _ => rfl)
    (retires (f := fun c => e.complete { c with pc := word c.dbuf c.tl }) fun c =>
      hcomplete { c with pc := word c.dbuf c.tl }))))

end ProperSequence

theorem Cpu.setNZ_pins (v : Byte) (c : Cpu) : (c.setNZ v).pins = c.pins := rfl
theorem Cpu.setShift_pins (t : ShiftResult) (c : Cpu) : (c.setShift t).pins = c.pins := rfl

theorem opAdc_keepsPins (v : Byte) (c c' : Cpu) (h : opAdc v c = .ok c') : c'.pins = c.pins := by
  unfold opAdc at h
  split at h <;> cases h
  rfl

theorem opSbc_keepsPins (v : Byte) (c c' : Cpu) (h : opSbc v c = .ok c') : c'.pins = c.pins := by
  unfold opSbc at h
  split at h <;> cases h
  rfl

/-- Every instruction's sequence is proper (R153, R156). -/
theorem sequenceOf_proper (cfg : Config) (i : Instr) : ProperSequence (sequenceOf cfg i) := by
  cases i
  case oraInx | oraZp | oraAbs | oraIny | oraZpx | oraAby | oraAbx | andInx | bitZp | andZp | bitAbs | andAbs | andIny
      | andZpx | andAby | andAbx | eorInx | eorZp | eorAbs | eorIny | eorZpx | eorAby | eorAbx | ldaInx | ldyZp |
      ldaZp | ldxZp | ldyAbs | ldaAbs | ldxAbs | ldaIny | ldyZpx | ldaZpx | ldxZpy | ldaAby | ldyAbx | ldaAbx | ldxAby
      | cmpInx | cpyZp | cmpZp | cpyAbs | cmpAbs | cmpIny | cmpZpx | cmpAby | cmpAbx | cpxZp | cpxAbs =>
    exact .read fun _ _ _ h => by cases h; rfl
  case oraImm | andImm | eorImm | ldyImm | ldxImm | ldaImm | cpyImm | cmpImm | cpxImm =>
    exact .readImm fun _ _ _ h => by cases h; rfl
  case adcInx | adcZp | adcAbs | adcIny | adcZpx | adcAby | adcAbx =>
    exact .read opAdc_keepsPins
  case sbcInx | sbcZp | sbcAbs | sbcIny | sbcZpx | sbcAby | sbcAbx =>
    exact .read opSbc_keepsPins
  case adcImm => exact .readImm opAdc_keepsPins
  case sbcImm => exact .readImm opSbc_keepsPins
  case staInx | styZp | staZp | stxZp | styAbs | staAbs | stxAbs | staIny | styZpx | staZpx | stxZpy | staAby | staAbx
      =>
    exact .write
  case aslZp | aslAbs | aslZpx | aslAbx | rolZp | rolAbs | rolZpx | rolAbx | lsrZp | lsrAbs | lsrZpx | lsrAbx | rorZp
      | rorAbs | rorZpx | rorAbx =>
    exact .modify fun _ _ => Cpu.setShift_pins _ _
  case decZp | decAbs | decZpx | decAbx | incZp | incAbs | incZpx | incAbx =>
    exact .modify fun _ _ => Cpu.setNZ_pins _ _
  case aslAcc | rolAcc | lsrAcc | rorAcc =>
    exact .accumulator fun _ _ => Cpu.setShift_pins _ _
  case clc | sec | cli | sei | dey | txa | tya | txs | tay | tax | clv | tsx | iny | dex | cld | inx | nop | sed =>
    exact .implied fun _ => rfl
  case bpl | bmi | bvc | bvs | bcc | bcs | bne | beq =>
    exact .branch
  case php | pha =>
    exact .push
  case plp | pla =>
    exact .pull fun _ _ => rfl
  case jmpAbs =>
    exact .cons (fun _ => rfl) (.cons (fun _ => rfl)
      (.retires (f := fun c => { c with pc := word c.dbuf c.tmp }) fun _ => rfl))
  case jmpInd =>
    exact .cons (fun _ => rfl) (.cons (fun _ => rfl) (.cons (fun _ => rfl) (.cons (fun _ => rfl)
      (.retires (f := fun c => { c with pc := word c.dbuf c.tl }) fun _ => rfl))))
  case jsr =>
    exact .cons (fun _ => rfl) (.cons (fun _ => rfl) (.cons (fun _ => rfl) (.cons (fun _ => rfl) (.cons (fun _ => rfl)
      (.retires (f := fun c => { c with pc := word c.dbuf c.tmp }) fun _ => rfl)))))
  case rts =>
    exact .cons (fun _ => rfl) (.cons (fun _ => rfl) (.cons (fun _ => rfl) (.cons (fun _ => rfl) (.cons (fun _ => rfl)
      (.retires (f := Cpu.incPc) fun _ => rfl)))))
  case rti =>
    exact .cons (fun _ => rfl) (.cons (fun _ => rfl) (.cons (fun _ => rfl) (.cons (fun _ => rfl) (.cons (fun _ => rfl)
      (.retires (f := fun c => { c with pc := word c.dbuf c.tl }) fun _ => rfl)))))
  case brk => exact .cons (fun _ => rfl) (.cons (fun _ => rfl) .entryTail)
  case nmi | irq => exact .cons (fun _ => rfl) .entryTail
  case reset =>
    exact .cons (fun _ => rfl) (.cons (fun _ => rfl)
      (.retires (f := fun c => { c with pc := word c.dbuf c.tl, resPend := false }) fun _ => rfl))
  all_goals exact .retires (f := Cpu.incPc) fun _ => rfl

end Sys2Proof.Machine
end

section
/-! ### The operand bytes are those that memory holds (R120) -/

namespace Sys2Proof.Machine

/-- The clock cycle after micro-step `k`, which left `c`. -/
def State.cycleAfter (k : Nat) (c : Cpu) (s : State) : State :=
  (s.withCpu { c with cyc := k + 1 }).clockCycle

@[simp] theorem State.cycleAfter_pc (k : Nat) (c : Cpu) (s : State) : (s.cycleAfter k c).cpu.pc = c.pc :=
  State.clockCycle_pc _

@[simp] theorem State.cycleAfter_sp (k : Nat) (c : Cpu) (s : State) : (s.cycleAfter k c).cpu.sp = c.sp :=
  State.clockCycle_sp _

theorem State.sameMemory_cycleAfter_read {k : Nat} {c : Cpu} (hr : c.prw = true) (s : State) :
    s.SameMemory (s.cycleAfter k c) :=
  (State.sameMemory_withCpu _ s).trans (State.sameMemory_clockCycle_read _ hr)

theorem State.sameMemory_cycleAfter_write {k : Nat} {c : Cpu} (hr : c.prw = false) (s : State) :
    (s.poke c.paddr c.pdata).SameMemory (s.cycleAfter k c) :=
  ((State.sameMemory_withCpu { c with cyc := k + 1 } s).poke _ _).trans
    (State.sameMemory_clockCycle_write (s.withCpu { c with cyc := k + 1 }) hr)

/-- Cycle by cycle, fetching the operand byte from memory is the clock cycle itself. -/
def OperandsInMemory (k : Nat) : List Micro → List (Option Byte) → State → Prop
  | [], _, _ => True
  | u :: us, ops, s => ∀ c, u s.cpu = .more c →
    (s.withCpu { c with cyc := k + 1 }).operandCycle (ops.headD none) = s.cycleAfter k c ∧
      OperandsInMemory (k + 1) us ops.tail (s.cycleAfter k c)

/-- An operand cycle is a clock cycle when it reads the byte from memory. -/
theorem State.operandCycle_eq_clockCycle {s : State} {v : Byte} (hr : s.cpu.prw = true) (hv : v = s.peek s.cpu.paddr) :
    s.operandCycle (some v) = s.clockCycle := by
  rw [State.operandCycle_some, hv, ← s.clockCycle_dbuf_read hr]
  rfl

/-- Cycles that fetch no operand byte. -/
theorem operandsInMemory_nil (k : Nat) (seq : List Micro) (s : State) : OperandsInMemory k seq [] s := by
  induction seq generalizing k s with
  | nil => trivial
  | cons u us ih => exact fun c _ => ⟨rfl, ih _ _⟩

/-- A micro-step that stages a read, of the operand byte if the cycle has one, and a rest that finds its own after it. -/
theorem operandsInMemory_read {k : Nat} {u : Micro} {us : List Micro} {v : Option Byte} {ops : List (Option Byte)}
    {s : State} {c : Cpu} (hu : u s.cpu = .more c) (hr : c.prw = true) (hv : ∀ b, v = some b → b = s.peek c.paddr)
    (hus : ∀ t : State, t.cpu.pc = c.pc → t.cpu.sp = c.sp → s.SameMemory t → OperandsInMemory (k + 1) us ops t) :
    OperandsInMemory k (u :: us) (v :: ops) s := by
  intro c' hc'
  obtain rfl : c = c' := by rw [hu] at hc'; exact MicroEnd.more.inj hc'
  refine ⟨?_, hus _ (s.cycleAfter_pc k c) (s.cycleAfter_sp k c) (State.sameMemory_cycleAfter_read hr s)⟩
  cases v with
  | none => rfl
  | some b => exact State.operandCycle_eq_clockCycle hr (hv b rfl)

/-- A micro-step that stages a write, and a rest that finds its operand bytes after it. -/
theorem operandsInMemory_write {k : Nat} {u : Micro} {us : List Micro} {ops : List (Option Byte)} {s : State} {c : Cpu}
    (hu : u s.cpu = .more c) (hr : c.prw = false)
    (hus : ∀ t : State, t.cpu.pc = c.pc → t.cpu.sp = c.sp → (s.poke c.paddr c.pdata).SameMemory t →
      OperandsInMemory (k + 1) us ops t) :
    OperandsInMemory k (u :: us) (none :: ops) s := by
  intro c' hc'
  obtain rfl : c = c' := by rw [hu] at hc'; exact MicroEnd.more.inj hc'
  exact ⟨rfl, hus _ (s.cycleAfter_pc k c) (s.cycleAfter_sp k c) (State.sameMemory_cycleAfter_write hr s)⟩

/-- JSR fetches its first byte at once and its second after the pushes (R281). -/
theorem operandsInMemory_jsr (s : State) :
    OperandsInMemory 0 (seqJsr s.cfg)
      [some (s.peek (s.cpu.pc + 1)), none, none, none, s.jsrThirdByte (s.peek (s.cpu.pc + 2))] s := by
  refine operandsInMemory_read rfl rfl (by rintro b ⟨⟩; rfl) fun t1 pc1 sp1 m1 => ?_
  refine operandsInMemory_read rfl rfl (by rintro b ⟨⟩) fun t2 pc2 sp2 m2 => ?_
  refine operandsInMemory_write rfl rfl fun t3 pc3 sp3 m3 => ?_
  refine operandsInMemory_write rfl rfl fun t4 pc4 sp4 m4 => ?_
  have hpc2 : t2.cpu.pc = s.cpu.pc + 2 := by rw [pc2]; simp [pc1]
  have hsp2 : t2.cpu.sp = s.cpu.sp := by rw [sp2]; simp [sp1]
  have hpc3 : t3.cpu.pc = s.cpu.pc + 2 := by rw [pc3]; simp [hpc2]
  have hsp3 : t3.cpu.sp = s.cpu.sp - 1 := by rw [sp3]; simp [hsp2]
  have hpc4 : t4.cpu.pc = s.cpu.pc + 2 := by rw [pc4]; simp [hpc3]
  simp only [Cpu.push_paddr, Cpu.push_pdata, hpc2, hsp2] at m3
  simp only [Cpu.push_paddr, Cpu.push_pdata, hpc3, hsp3] at m4
  have hmem : s.afterJsrPushes.SameMemory t4 := ((((m1.trans m2).poke _ _).trans m3).poke _ _).trans m4
  refine operandsInMemory_read rfl rfl (fun b hb => ?_) fun _ _ _ _ => operandsInMemory_nil _ _ _
  rw [Cpu.fetch_paddr, hpc4, hmem.peek]
  unfold State.jsrThirdByte at hb
  split at hb
  case isTrue h => rw [h]; exact (Option.some.inj hb).symm
  case isFalse => cases hb

/-- How the sequence of an instruction meets its operand bytes: it has none, its first bus cycle fetches the one, the first
two fetch both, or it is JSR. -/
inductive FetchesOperands (s : State) (b1 b2 : Byte) : List Micro → List (Option Byte) → Prop
  | none (us : List Micro) : FetchesOperands s b1 b2 us []
  | one (us : List Micro) : FetchesOperands s b1 b2 (microZero :: us) [some b1]
  | two (us : List Micro) : FetchesOperands s b1 b2 (microZero :: formLow :: us) [some b1, some b2]
  | jsr : FetchesOperands s b1 b2 (seqJsr s.cfg) [some b1, none, none, none, s.jsrThirdByte b2]

/-- Every opcode's instruction meets its operand bytes in one of these ways: by the row and the column of the map of R123. -/
theorem decodeOpcode_fetchesOperands (s : State) (op b1 b2 : Byte) :
    FetchesOperands s b1 b2 (sequenceOf s.cfg (decodeOpcode op b1 b2)) (operandBytesOf (decodeOpcode op b1 b2) s) := by
  generalize hi : decodeOpcode op b1 b2 = i
  unfold decodeOpcode decodeRow0 decodeRow1 decodeRow2 decodeRow3 decodeRow4 decodeRow5 decodeRow6 decodeRow7 decodeRow8
    decodeRow9 decodeRowA decodeRowB decodeRowC decodeRowD decodeRowE decodeRowF at hi
  dsimp only at hi
  split at hi <;> split at hi <;> subst hi <;> constructor

/-- An instruction that fetches its operand bytes `MemRead(PC + 1, 1)` and `MemRead(PC + 2, 1)` finds them in memory. -/
theorem FetchesOperands.inMemory {s : State} {seq : List Micro} {ops : List (Option Byte)}
    (h : FetchesOperands s (s.peek (s.cpu.pc + 1)) (s.peek (s.cpu.pc + 2)) seq ops) : OperandsInMemory 0 seq ops s := by
  cases h with
  | none => exact operandsInMemory_nil _ _ _
  | one => exact operandsInMemory_read rfl rfl (by rintro b ⟨⟩; rfl) fun _ _ _ _ => operandsInMemory_nil _ _ _
  | two =>
    refine operandsInMemory_read rfl rfl (by rintro b ⟨⟩; rfl) fun t pc _ m => ?_
    refine operandsInMemory_read rfl rfl (fun b hb => ?_) fun _ _ _ _ => operandsInMemory_nil _ _ _
    have hpc : t.cpu.pc + 1 = s.cpu.pc + 2 := by rw [pc]; simp
    rw [Cpu.fetch_paddr, hpc, m.peek]
    exact (Option.some.inj hb).symm
  | jsr => exact operandsInMemory_jsr s

/-- A selector stands for a pseudo-instruction, or for an opcode with whatever bytes follow it (R44, R126). -/
theorem decodeSelector_cases {cfg : Config} {sel : Selector} {b1 b2 : Byte} {i : Instr}
    (h : decodeSelector cfg sel b1 b2 = some i) :
    ((i = .reset ∨ i = .nmi ∨ i = .irq) ∧ ∀ c1 c2, decodeSelector cfg sel c1 c2 = some i) ∨
      ∃ op, i = decodeOpcode op b1 b2 ∧ ∀ c1 c2, decodeSelector cfg sel c1 c2 = some (decodeOpcode op c1 c2) := by
  unfold decodeSelector at h
  split at h
  case isTrue hr => cases h; exact .inl ⟨.inl rfl, fun _ _ => by rw [decodeSelector, if_pos hr]⟩
  split at h
  case isTrue hr hn => cases h; exact .inl ⟨.inr (.inl rfl), fun _ _ => by rw [decodeSelector, if_neg hr, if_pos hn]⟩
  split at h
  case isTrue hr hn hi =>
    cases h; exact .inl ⟨.inr (.inr rfl), fun _ _ => by rw [decodeSelector, if_neg hr, if_neg hn, if_pos hi]⟩
  split at h
  case isTrue hr hn hi hop =>
    cases h; exact .inr ⟨_, rfl, fun _ _ => by rw [decodeSelector, if_neg hr, if_neg hn, if_neg hi, if_pos hop]⟩
  case isFalse => cases h

/-- The operand bytes of the selected instruction are in memory when its cycles fetch them. -/
theorem State.operandsInMemory_of_selected {s : State} {i : Instr} (h : s.selected = some i) :
    OperandsInMemory 0 (sequenceOf s.cfg i) (operandBytesOf i s) s := by
  obtain ⟨rfl | rfl | rfl, -⟩ | ⟨op, rfl, -⟩ := decodeSelector_cases h
  · exact operandsInMemory_nil _ _ _
  · exact operandsInMemory_nil _ _ _
  · exact operandsInMemory_nil _ _ _
  · exact (decodeOpcode_fetchesOperands s op _ _).inMemory

/-- The sequence of an opcode does not depend on the operand bytes. -/
theorem sequenceOf_decodeOpcode (cfg : Config) (op b1 b2 : Byte) :
    sequenceOf cfg (decodeOpcode op b1 b2) = sequenceOf cfg (decodeOpcode op 0 0) := by
  unfold decodeOpcode decodeRow0 decodeRow1 decodeRow2 decodeRow3 decodeRow4 decodeRow5 decodeRow6 decodeRow7 decodeRow8
    decodeRow9 decodeRowA decodeRowB decodeRowC decodeRowD decodeRowE decodeRowF
  dsimp only
  split <;> split <;> rfl

/-- The tick level runs the sequence of the selected instruction (R153). -/
theorem State.sequenceAt_of_selected {s : State} {i : Instr} (h : s.selected = some i) :
    sequenceAt s.cfg s.cpu.ir = sequenceOf s.cfg i := by
  obtain ⟨-, hsel⟩ | ⟨op, rfl, hsel⟩ := decodeSelector_cases h
  · rw [sequenceAt, hsel]
  · rw [sequenceAt, hsel, sequenceOf_decodeOpcode]

/-- The meaning of an instruction is the run of its sequence with its operand bytes. -/
theorem exec_eq_run (i : Instr) (s : State) : exec i s = run (sequenceOf s.cfg i) (operandBytesOf i s) s := by
  cases i <;> rfl

end Sys2Proof.Machine
end

section
/-! ### A run is its ticks (R13, R160, R179) -/

namespace Sys2Proof.Machine

theorem MicroEnd.KeepsPins.count {c : Cpu} {e : MicroEnd} (h : e.KeepsPins c) (k : Nat) : (e.count k).KeepsPins c := by
  cases e <;> exact h

section Run
variable {s : State} {k : Nat} {u : Micro} {us : List Micro} {ops : List (Option Byte)} {c : Cpu}

theorem State.Ready.withCpu (h : s.Ready) (ha : c.oaddr = s.cpu.oaddr) (hr : c.orw = s.cpu.orw)
    (hd : c.odata = s.cpu.odata) : (s.withCpu c).Ready :=
  h.of_same rfl (Buses.SameWiring.refl _) rfl (fun _ hi => hi) ha hr hd

/-- The micro-step that `CYC` numbers in the selected sequence (R153). -/
theorem State.micro_eq (hcyc : s.cpu.cyc = k) (hseq : (sequenceAt s.cfg s.cpu.ir).drop k = u :: us) :
    s.micro = (u s.cpu).count k := by
  have hget : (sequenceAt s.cfg s.cpu.ir)[k]? = some u := by
    have := congrArg (fun l => l[0]?) hseq
    simpa [List.getElem?_drop] using this
  rw [State.micro, microStep, hcyc, hget]

theorem State.micro_keepsPins (hus : ProperSequence us) (hcyc : s.cpu.cyc = k)
    (hseq : (sequenceAt s.cfg s.cpu.ir).drop k = us) : s.micro.KeepsPins s.cpu := by
  cases hus with
  | last hpins => rw [State.micro_eq hcyc hseq]; exact (hpins s.cpu).count _
  | cons hpins => rw [State.micro_eq hcyc hseq]; exact (hpins s.cpu).count _

/-- After a micro-step that keeps the pins, its clock cycle ends in a state as ready as the one before, one further in the
sequence. -/
theorem State.Ready.cycleAfter (h : s.Ready) (hc : s.ClockAt true 0) (hkeep : c.pins = s.cpu.pins) (k : Nat) :
    (s.cycleAfter k c).Ready ∧ (s.cycleAfter k c).ClockAt true 0 ∧ (s.cycleAfter k c).cfg = s.cfg ∧
      (s.cycleAfter k c).cpu.cyc = k + 1 ∧ (s.cycleAfter k c).cpu.ir = s.cpu.ir ∧
      ((s.cycleAfter k c).micro.KeepsPins (s.cycleAfter k c).cpu →
        (s.withCpu { c with cyc := k + 1 }).ticks (2 * s.cfg.clkDiv) =
          (s.cycleAfter k c).after (s.cycleAfter k c).micro) := by
  have h1 : (s.withCpu { c with cyc := k + 1 }).Ready :=
    h.withCpu (congrArg Pins.oaddr hkeep) (congrArg Pins.orw hkeep) (congrArg Pins.odata hkeep)
  have hc1 : (s.withCpu { c with cyc := k + 1 }).ClockAt true 0 :=
    ⟨(congrArg Pins.lastClk hkeep).trans hc.lastClk, hc.value, hc.div⟩
  have hcyc : (s.cycleAfter k c).cpu.cyc = k + 1 := State.clockCycle_cyc _
  have hentered : (s.cycleAfter k c).entered = s.cycleAfter k c := by
    rw [State.entered, if_neg (by omega)]
  have hticks := h1.ticks_clockCycle hc1
  rw [show (s.withCpu { c with cyc := k + 1 }).clockCycle.entered = s.cycleAfter k c from hentered] at hticks
  exact ⟨h1.clockCycle, h1.clockAt_clockCycle hc1, State.clockCycle_cfg _, hcyc,
    (State.clockCycle_ir _).trans (congrArg Pins.ir hkeep), hticks⟩

/-- After a micro-step that ends its instruction there is no tick to run. -/
theorem ticks_runFrom_of_stops (n : Nat) (hmicro : s.micro = (u s.cpu).count k) (hstops : (u s.cpu).Stops) :
    andThen (s.after s.micro) (State.ticks (n * (busFrom k (u :: us) ops s).length)) = runFrom k (u :: us) ops s := by
  rw [hmicro]
  cases hu : u s.cpu with
  | more c => rw [hu] at hstops; exact hstops.elim
  | retired c => rw [busFrom_retired hu, runFrom_retired hu]; rfl
  | refuse r => rw [runFrom_refuse hu]; rfl

/-- The micro-steps of a sequence from `k` on, each at the end of the ticks of its clock cycle: the first runs in a state
that has sampled and dispatched, and the rest of the run is the ticks of its bus transactions. -/
theorem State.Ready.ticks_runFrom (hus : ProperSequence us) (h : s.Ready) (hc : s.ClockAt true 0) (hcyc : s.cpu.cyc = k)
    (hseq : (sequenceAt s.cfg s.cpu.ir).drop k = us) (hops : OperandsInMemory k us ops s) :
    andThen (s.after s.micro) (State.ticks (2 * s.cfg.clkDiv * (busFrom k us ops s).length)) = runFrom k us ops s := by
  induction hus generalizing k s ops with
  | last hpins hstops => exact ticks_runFrom_of_stops _ (State.micro_eq hcyc hseq) (hstops s.cpu)
  | @cons u us hpins hus ih =>
    have hmicro := State.micro_eq hcyc hseq
    cases hu : u s.cpu with
    | retired c => exact ticks_runFrom_of_stops _ hmicro (by rw [hu]; trivial)
    | refuse r => exact ticks_runFrom_of_stops _ hmicro (by rw [hu]; trivial)
    | more c =>
      have hkeep : c.pins = s.cpu.pins := by have := hpins s.cpu; rwa [hu] at this
      obtain ⟨hoperand, hops⟩ := hops c hu
      obtain ⟨ht, hct, hcfg, hcyct, hir, hticks⟩ := h.cycleAfter hc hkeep k
      have hseqt : (sequenceAt (s.cycleAfter k c).cfg (s.cycleAfter k c).cpu.ir).drop (k + 1) = us := by
        rw [hcfg, hir, ← List.drop_drop, hseq]; rfl
      have hrest := ih ht hct hcyct hseqt hops
      rw [hcfg] at hrest
      calc andThen (s.after s.micro) (State.ticks (2 * s.cfg.clkDiv * (busFrom k (u :: us) ops s).length))
          = (s.withCpu { c with cyc := k + 1 }).ticks
              (2 * s.cfg.clkDiv + 2 * s.cfg.clkDiv * (busFrom (k + 1) us ops.tail (s.cycleAfter k c)).length) := by
            simp only [hmicro, hu, MicroEnd.count, State.after, andThen, busFrom, hoperand, List.length_cons]
            rw [Nat.mul_succ, Nat.add_comm]
        _ = runFrom (k + 1) us ops.tail (s.cycleAfter k c) := by
            rw [State.ticks_add, hticks (State.micro_keepsPins hus hcyct hseqt), hrest]
        _ = runFrom k (u :: us) ops s := by simp only [runFrom, hu, hoperand]

/-- What the invariant says of the clock cycle to come. -/
theorem State.ready_of_inv (h : s.inv = true) :
    s.instructionLevel = true ∧ s.Ready ∧ s.ClockAt true 0 ∧ s.cpu.cyc = 0 := by
  simp only [State.inv, Bool.and_eq_true] at h
  obtain ⟨⟨⟨⟨hlevel, hsettled⟩, -⟩, harrays⟩, -⟩ := h
  have hl := hlevel
  simp only [State.instructionLevel, State.atBoundary, State.afterRisingEdge, Bool.and_eq_true, decide_eq_true_eq,
    List.all_eq_true] at hl
  obtain ⟨⟨-, -, hcyc, -⟩, ⟨hlast, hvalue, hdiv⟩, hplatform, hinputs⟩ := hl
  simp only [State.arraysOk, MemDevice.arrayOk, List.all_eq_true, Bool.and_eq_true] at harrays
  exact ⟨hlevel, ⟨hplatform, hinputs, fun d hd => (harrays d hd).1, State.settled_iff.mp hsettled⟩,
    ⟨hlast, hvalue, hdiv⟩, hcyc⟩

end Run

end Sys2Proof.Machine

open Sys2Proof Sys2Proof.Machine

/-- Settles O53: each clock cycle is its ticks (`State.Ready.ticks_clockCycle`), by induction over the micro-steps of the
selected sequence (`State.Ready.ticks_runFrom`). -/
theorem stepIsItsTicks : Obligations.StepIsItsTicks := by
  intro s i hinv hsel
  obtain ⟨hlevel, h, hc, hcyc⟩ := State.ready_of_inv hinv
  have hentered : s.clockCycle.entered = s.cycleZero := by
    rw [State.entered, if_pos ((State.clockCycle_cyc s).trans hcyc)]; rfl
  have hzero : s.cycleZero.Ready := h.clockCycle.withCpu rfl rfl rfl
  have hclock : s.cycleZero.ClockAt true 0 := by
    obtain ⟨hlast, hvalue, hdiv⟩ := h.clockAt_clockCycle hc
    exact ⟨hlast, hvalue, hdiv⟩
  have hcyc0 : s.cycleZero.cpu.cyc = 0 := (State.clockCycle_cyc s).trans hcyc
  have hcfg : s.cycleZero.cfg = s.cfg := State.clockCycle_cfg s
  have hproper := sequenceOf_proper s.cycleZero.cfg i
  have hseq := State.sequenceAt_of_selected hsel
  have hticks := h.ticks_clockCycle hc (hentered ▸ State.micro_keepsPins hproper hcyc0 hseq)
  rw [hentered] at hticks
  calc s.ticks (2 * s.cfg.clkDiv * ((transactions i s.cycleZero).length + 1))
      = andThen (s.cycleZero.after s.cycleZero.micro)
          (State.ticks (2 * s.cycleZero.cfg.clkDiv * (transactions i s.cycleZero).length)) := by
        rw [Nat.mul_succ, Nat.add_comm, State.ticks_add, hticks, hcfg]
    _ = exec i s.cycleZero := by
        rw [exec_eq_run]
        exact hzero.ticks_runFrom hproper hclock hcyc0 hseq (State.operandsInMemory_of_selected hsel)
    _ = step s := by rw [step, if_pos hlevel, hsel]
end

section
/-! ### One bit of the status byte at a time (R30, R32) -/

namespace Sys2Proof.Machine

theorem flagBit_lt (f : Flag) : flagBit f < 8 := by
  cases f <;> decide

theorem flagBit_injective {f g : Flag} (h : flagBit f = flagBit g) : f = g := by
  revert h
  cases f <;> cases g <;> decide

/-- The mask of a flag has that flag's bit alone. -/
theorem getLsbD_flagMask (f : Flag) (k : Nat) : (flagMask f).getLsbD k = decide (k = flagBit f) := by
  have hf := flagBit_lt f
  rw [flagMask, ← BitVec.twoPow_eq, BitVec.getLsbD_twoPow]
  simp only [hf, decide_true, Bool.true_and, eq_comm]

/-- Writing a flag changes the bit of R30 and no other. -/
theorem getLsbD_setFlag (f : Flag) (on : Bool) (p : Byte) {k : Nat} (hk : k < 8) :
    (setFlag f on p).getLsbD k = if k = flagBit f then on else p.getLsbD k := by
  cases on with
  | true =>
    rw [setFlag, if_pos rfl, BitVec.getLsbD_or, getLsbD_flagMask]
    by_cases hf : k = flagBit f <;> simp [hf]
  | false =>
    rw [setFlag, if_neg Bool.false_ne_true, BitVec.getLsbD_and, BitVec.getLsbD_not, getLsbD_flagMask]
    by_cases hf : k = flagBit f <;> simp [hf, hk]

/-- Reading a flag after another one, or the same, was written. -/
theorem getFlag_setFlag (f g : Flag) (on : Bool) (p : Byte) :
    getFlag g (setFlag f on p) = if g = f then on else getFlag g p := by
  have hbit : flagBit g = flagBit f ↔ g = f := ⟨flagBit_injective, congrArg flagBit⟩
  simp only [getFlag, getLsbD_setFlag f on p (flagBit_lt g), hbit]

/-- No named flag lies at bit 5. -/
theorem getLsbD_five_setFlag (f : Flag) (on : Bool) (p : Byte) : (setFlag f on p).getLsbD 5 = p.getLsbD 5 := by
  have hf : 5 ≠ flagBit f := by cases f <;> decide
  rw [getLsbD_setFlag f on p (by decide), if_neg hf]

/-- `setNZ(v)` writes bits 7 and 1 (R32). -/
theorem getLsbD_setNZ (v : Byte) (c : Cpu) {k : Nat} (hk : k < 8) :
    (c.setNZ v).p.getLsbD k =
      if k = 7 then v.getLsbD 7 else if k = 1 then decide (v = 0#8) else c.p.getLsbD k := by
  have hmsb : v.msb = v.getLsbD 7 := BitVec.msb_eq_getLsbD_last v
  rw [← hmsb]
  exact (getLsbD_setFlag .n v.msb _ hk).trans
    (congrArg (fun b => if k = flagBit .n then v.msb else b) (getLsbD_setFlag .z (decide (v = 0#8)) c.p hk))

end Sys2Proof.Machine

open Sys2Proof Sys2Proof.Machine

/-- Settles O41: `getLsbD_setFlag` and `getLsbD_setNZ`. -/
theorem flagWritesTouchOneBit : Obligations.FlagWritesTouchOneBit :=
  ⟨fun f on p _ hk => getLsbD_setFlag f on p hk, fun v c _ hk => getLsbD_setNZ v c hk, rfl⟩
end

section
/-! ### An instruction writes no register and no flag but those listed for it (R21 to R24, R31) -/

namespace Sys2Proof.Machine

/-- From `c` to `c'`, the registers and the flags that do not list `i` as a writer stand still; bit 5 goes with `P.B`. -/
structure Cpu.Within (i : Instr) (c c' : Cpu) : Prop where
  a : writesA i = false → c'.a = c.a
  x : writesX i = false → c'.x = c.x
  y : writesY i = false → c'.y = c.y
  sp : writesSp i = false → c'.sp = c.sp
  flag : ∀ f, writesFlag f i = false → getFlag f c'.p = getFlag f c.p
  bit5 : writesB i = false → c'.p.getLsbD 5 = c.p.getLsbD 5

/-- A micro-step's end changes what `i` is listed for; if it retires, it has staged the opcode fetch at `PC` (R159). -/
def MicroEnd.Within (i : Instr) (c : Cpu) : MicroEnd → Prop
  | .more c' => c.Within i c'
  | .retired c' => ∃ d : Cpu, c' = d.retire ∧ c.Within i d
  | .refuse _ => True

/-- A sequence of micro-steps each of which changes what `i` is listed for. -/
def SequenceWithin (i : Instr) (us : List Micro) : Prop :=
  ∀ u ∈ us, ∀ c, (u c).Within i c

section Within
variable {i : Instr} {c c' c'' : Cpu} {f : Flag}

/-- Registers that differ in `PC` alone. -/
theorem Cpu.Within.of_regs (h : c'.regs = { c.regs with pc := c'.pc }) : c.Within i c' := by
  simp only [Cpu.regs, Regs.mk.injEq] at h
  obtain ⟨ha, hx, hy, hsp, hp, -⟩ := h
  exact ⟨fun _ => ha, fun _ => hx, fun _ => hy, fun _ => hsp, fun _ _ => by rw [hp], fun _ => by rw [hp]⟩

theorem Cpu.Within.trans (h : c.Within i c') (h' : c'.Within i c'') : c.Within i c'' where
  a hw := (h'.a hw).trans (h.a hw)
  x hw := (h'.x hw).trans (h.x hw)
  y hw := (h'.y hw).trans (h.y hw)
  sp hw := (h'.sp hw).trans (h.sp hw)
  flag f hw := (h'.flag f hw).trans (h.flag f hw)
  bit5 hw := (h'.bit5 hw).trans (h.bit5 hw)

/-! #### One register at a time -/

theorem Cpu.within_a (h : writesA i = true) (v : Byte) (c : Cpu) : c.Within i { c with a := v } :=
  ⟨fun hw => by simp [h] at hw, fun _ => rfl, fun _ => rfl, fun _ => rfl, fun _ _ => rfl, fun _ => rfl⟩

theorem Cpu.within_x (h : writesX i = true) (v : Byte) (c : Cpu) : c.Within i { c with x := v } :=
  ⟨fun _ => rfl, fun hw => by simp [h] at hw, fun _ => rfl, fun _ => rfl, fun _ _ => rfl, fun _ => rfl⟩

theorem Cpu.within_y (h : writesY i = true) (v : Byte) (c : Cpu) : c.Within i { c with y := v } :=
  ⟨fun _ => rfl, fun _ => rfl, fun hw => by simp [h] at hw, fun _ => rfl, fun _ _ => rfl, fun _ => rfl⟩

theorem Cpu.within_sp (h : writesSp i = true) (v : Byte) (c : Cpu) : c.Within i { c with sp := v } :=
  ⟨fun _ => rfl, fun _ => rfl, fun _ => rfl, fun hw => by simp [h] at hw, fun _ _ => rfl, fun _ => rfl⟩

theorem Cpu.within_p (h : ∀ f, writesFlag f i = true) (v : Byte) (c : Cpu) : c.Within i { c with p := v } where
  a _ := rfl
  x _ := rfl
  y _ := rfl
  sp _ := rfl
  flag f hw := by simp [h f] at hw
  bit5 hw := by simp [show writesB i = true from h .b] at hw

theorem Cpu.within_setFlag (h : writesFlag f i = true) (on : Bool) (c : Cpu) : c.Within i (c.setFlag f on) where
  a _ := rfl
  x _ := rfl
  y _ := rfl
  sp _ := rfl
  flag g hw := by
    have hne : g ≠ f := by rintro rfl; simp [h] at hw
    exact (getFlag_setFlag f g on c.p).trans (if_neg hne)
  bit5 _ := getLsbD_five_setFlag f on c.p

theorem Cpu.within_setNZ (h : writesNZ i = true) (v : Byte) (c : Cpu) : c.Within i (c.setNZ v) :=
  (Cpu.within_setFlag (f := .z) h _ c).trans (Cpu.within_setFlag (f := .n) h _ _)

theorem Cpu.within_push (h : writesSp i = true) (cfg : Config) (v : Byte) (c : Cpu) : c.Within i (c.push cfg v) :=
  (Cpu.within_sp h _ c).trans (.of_regs rfl)

theorem Cpu.within_pull (h : writesSp i = true) (cfg : Config) (c : Cpu) : c.Within i (c.pull cfg) :=
  (Cpu.within_sp h _ c).trans (.of_regs rfl)

/-! #### Operations of the instruction classes -/

theorem Cpu.within_setAdd (hnz : writesNZ i = true) (hc : writesC i = true) (hv : writesV i = true) (t : AddResult)
    (c : Cpu) : c.Within i (c.setAdd t) :=
  ((Cpu.within_setFlag (f := .c) hc _ c).trans (Cpu.within_setFlag (f := .v) hv _ _)).trans (Cpu.within_setNZ hnz _ _)

theorem Cpu.within_setCompare (hnz : writesNZ i = true) (hc : writesC i = true) (r m : Byte) (c : Cpu) :
    c.Within i (c.setCompare r m) :=
  (Cpu.within_setFlag (f := .c) hc _ c).trans (Cpu.within_setNZ hnz _ _)

theorem Cpu.within_setBit (hnz : writesNZ i = true) (hv : writesV i = true) (a m : Byte) (c : Cpu) :
    c.Within i (c.setBit a m) :=
  ((Cpu.within_setFlag (f := .z) hnz _ c).trans (Cpu.within_setFlag (f := .n) hnz _ _)).trans
    (Cpu.within_setFlag (f := .v) hv _ _)

theorem Cpu.within_setShift (hnz : writesNZ i = true) (hc : writesC i = true) (t : ShiftResult) (c : Cpu) :
    c.Within i (c.setShift t) :=
  (Cpu.within_setFlag (f := .c) hc _ c).trans (Cpu.within_setNZ hnz _ _)

theorem Cpu.within_aNZ (ha : writesA i = true) (hnz : writesNZ i = true) (v : Byte) (c : Cpu) :
    c.Within i ({ c with a := v }.setNZ v) :=
  (Cpu.within_a ha v c).trans (Cpu.within_setNZ hnz v _)

theorem Cpu.within_xNZ (hx : writesX i = true) (hnz : writesNZ i = true) (v : Byte) (c : Cpu) :
    c.Within i ({ c with x := v }.setNZ v) :=
  (Cpu.within_x hx v c).trans (Cpu.within_setNZ hnz v _)

theorem Cpu.within_yNZ (hy : writesY i = true) (hnz : writesNZ i = true) (v : Byte) (c : Cpu) :
    c.Within i ({ c with y := v }.setNZ v) :=
  (Cpu.within_y hy v c).trans (Cpu.within_setNZ hnz v _)

/-- A class R operation changes what `i` is listed for, where it has a meaning. -/
def ReadOp.Within (i : Instr) (op : ReadOp) : Prop :=
  ∀ v c c', op v c = .ok c' → c.Within i c'

/-- A class R operation that always has a meaning. -/
theorem ReadOp.within_ok {g : Byte → Cpu → Cpu} (h : ∀ v (c : Cpu), c.Within i (g v c)) :
    ReadOp.Within i fun v c => .ok (g v c) :=
  fun v c _ he => Except.ok.inj he ▸ h v c

theorem within_opAdc (ha : writesA i = true) (hnz : writesNZ i = true) (hc : writesC i = true) (hv : writesV i = true) :
    ReadOp.Within i opAdc := fun m c c' he => by
  unfold opAdc at he
  split at he <;> cases he
  exact (Cpu.within_a ha _ c).trans (Cpu.within_setAdd hnz hc hv _ _)

theorem within_opSbc (ha : writesA i = true) (hnz : writesNZ i = true) (hc : writesC i = true) (hv : writesV i = true) :
    ReadOp.Within i opSbc := fun m c c' he => by
  unfold opSbc at he
  split at he <;> cases he
  exact (Cpu.within_a ha _ c).trans (Cpu.within_setAdd hnz hc hv _ _)

/-! #### Sequences -/

theorem MicroEnd.Within.staged (h : c'.regs = { c.regs with pc := c'.pc }) : (MicroEnd.more c').Within i c :=
  Cpu.Within.of_regs h

theorem MicroEnd.Within.retired (h : c.Within i c') : (MicroEnd.retired c'.retire).Within i c :=
  ⟨c', rfl, h⟩

namespace SequenceWithin
variable {us us' : List Micro} {u : Micro} {m : AddrMode} {cfg : Config}

theorem nil : SequenceWithin i [] := by simp [SequenceWithin]

theorem cons (h : ∀ c, (u c).Within i c) (hus : SequenceWithin i us) : SequenceWithin i (u :: us) :=
  List.forall_mem_cons.mpr ⟨h, hus⟩

theorem append (h : SequenceWithin i us) (h' : SequenceWithin i us') : SequenceWithin i (us ++ us') :=
  List.forall_mem_append.mpr ⟨h, h'⟩

/-- A micro-step that touches no listed register. -/
theorem staged {g : Cpu → Cpu} (h : ∀ c, (g c).regs = { c.regs with pc := (g c).pc }) (hus : SequenceWithin i us) :
    SequenceWithin i ((fun c => .more (g c)) :: us) :=
  cons (fun c => .staged (h c)) hus

/-- A last micro-step. -/
theorem retires {g : Cpu → Cpu} (h : ∀ c : Cpu, c.Within i (g c)) : SequenceWithin i [fun c => .retired (g c).retire] :=
  cons (fun c => .retired (h c)) nil

theorem formation {stage : Word → Cpu → Cpu} (h : ∀ w c, (stage w c).regs = { c.regs with pc := (stage w c).pc }) :
    SequenceWithin i (formation m stage) := by
  cases m with
  | zp => exact staged (fun c => h _ c.incPc) nil
  | zpx | zpy => exact staged (fun _ => rfl) (staged (fun c => h _ c) nil)
  | abs | abx | aby => exact staged (fun _ => rfl) (staged (fun c => h _ c.incPc) nil)
  | inx =>
    exact staged (fun _ => rfl) (staged (fun _ => rfl) (staged (fun _ => rfl) (staged (fun c => h _ c) nil)))
  | iny => exact staged (fun _ => rfl) (staged (fun _ => rfl) (staged (fun c => h _ c) nil))

/-- The operation of class R on registers that differ in `PC` alone. -/
theorem readEnd {op : ReadOp} (hop : op.Within i) {g : Cpu → Cpu} (hg : ∀ c : Cpu, c.Within i (g c)) :
    SequenceWithin i [fun c => readEnd op (g c)] := by
  refine cons (fun c => ?_) nil
  unfold Machine.readEnd
  cases h : op (g c).dbuf (g c) with
  | ok c' => exact .retired ((hg c).trans (hop _ _ _ h))
  | error r => trivial

theorem read {op : ReadOp} (hop : op.Within i) : SequenceWithin i (seqRead m op) :=
  append (staged (fun _ => rfl) (formation fun _ _ => rfl)) (readEnd hop (g := id) fun _ => .of_regs rfl)

theorem readImm {op : ReadOp} (hop : op.Within i) : SequenceWithin i (seqReadImm op) :=
  staged (fun _ => rfl) (readEnd hop (g := Cpu.incPc) fun _ => .of_regs rfl)

theorem write {r : Cpu → Byte} : SequenceWithin i (seqWrite m r) :=
  append (staged (fun _ => rfl) (formation fun _ _ => rfl)) (retires (g := id) fun _ => .of_regs rfl)

theorem modify {f : ModifyOp} (hf : ∀ v (c : Cpu), c.Within i (f v c).2) : SequenceWithin i (seqModify m f) :=
  append (staged (fun _ => rfl) (formation fun _ _ => rfl))
    (staged (fun _ => rfl) (cons (fun c => (hf c.tmp c).trans (.of_regs rfl)) (retires (g := id) fun _ => .of_regs rfl)))

theorem implied {act : Cpu → Cpu} (hact : ∀ c : Cpu, c.Within i (act c)) : SequenceWithin i (seqImplied act) :=
  staged (fun _ => rfl) (retires hact)

theorem accumulator {f : ModifyOp} (ha : writesA i = true) (hf : ∀ v (c : Cpu), c.Within i (f v c).2) :
    SequenceWithin i (seqAccumulator f) :=
  implied fun c => (hf c.a c).trans (Cpu.within_a ha _ _)

theorem branch {cond : Cpu → Bool} : SequenceWithin i (seqBranch cond) := by
  refine staged (fun _ => rfl) (cons (fun c => ?_)
    (retires (g := fun c => { c with pc := c.pc + sext16 c.tmp }) fun _ => .of_regs rfl))
  cases cond c
  · exact .retired (.of_regs rfl)
  · exact .staged rfl

theorem push {v : Cpu → Byte} (h : writesSp i = true) : SequenceWithin i (seqPush cfg v) :=
  staged (fun _ => rfl) (cons (fun c => Cpu.within_push h cfg (v c) c) (retires (g := id) fun _ => .of_regs rfl))

theorem pull {take : Byte → Cpu → Cpu} (h : writesSp i = true) (htake : ∀ v (c : Cpu), c.Within i (take v c)) :
    SequenceWithin i (seqPull cfg take) :=
  staged (fun _ => rfl) (staged (fun _ => rfl) (cons (Cpu.within_pull h cfg) (retires fun c => htake c.dbuf c)))

/-- The exception entry without its first push: `SP` and `P.I` (R340, R366, R367). -/
theorem entryTail {e : Entry} (hsp : writesSp i = true) (hi : writesI i = true) :
    SequenceWithin i (entrySequence cfg e).tail := by
  have hset := Cpu.within_setFlag (i := i) (f := .i) hi
  have hstatus : ∀ c : Cpu, c.Within i (e.pushStatus cfg c) := fun c => by
    unfold Entry.pushStatus
    cases e.maskAtPush
    · exact Cpu.within_push hsp cfg _ c
    · exact (hset true c).trans (Cpu.within_push hsp cfg _ _)
  have hmask : ∀ c : Cpu, c.Within i (e.mask c) := fun c => by
    unfold Entry.mask
    split
    · exact hset true c
    · exact .of_regs rfl
  have hcomplete : ∀ c : Cpu, c.Within i (e.complete c) := fun c => by
    unfold Entry.complete
    split
    · exact (hset false c).trans (.of_regs rfl)
    · exact .of_regs rfl
  have hlast : ∀ c : Cpu, c.Within i (e.complete { c with pc := word c.dbuf c.tl }) := fun c =>
    Cpu.Within.trans (c' := { c with pc := word c.dbuf c.tl }) (.of_regs rfl) (hcomplete _)
  exact cons (fun c => Cpu.within_push hsp cfg (loByte c.pc) c) (cons hstatus
    (cons (fun c => (hmask c).trans (.of_regs rfl)) (staged (fun _ => rfl) (retires hlast))))

end SequenceWithin


/-- Every micro-step of an instruction changes what the instruction is listed for (R21 to R24, R31). -/
theorem sequenceOf_within (cfg : Config) (i : Instr) : SequenceWithin i (sequenceOf cfg i) := by
  cases i
  case ldaInx | ldaZp | ldaAbs | ldaIny | ldaZpx | ldaAby | ldaAbx | andInx | andZp | andAbs | andIny | andZpx | andAby
      | andAbx | oraInx | oraZp | oraAbs | oraIny | oraZpx | oraAby | oraAbx | eorInx | eorZp | eorAbs | eorIny | eorZpx
      | eorAby | eorAbx =>
    exact .read (ReadOp.within_ok fun _ _ => Cpu.within_aNZ rfl rfl _ _)
  case ldaImm | andImm | oraImm | eorImm => exact .readImm (ReadOp.within_ok fun _ _ => Cpu.within_aNZ rfl rfl _ _)
  case ldxZp | ldxAbs | ldxZpy | ldxAby => exact .read (ReadOp.within_ok fun _ _ => Cpu.within_xNZ rfl rfl _ _)
  case ldxImm => exact .readImm (ReadOp.within_ok fun _ _ => Cpu.within_xNZ rfl rfl _ _)
  case ldyZp | ldyAbs | ldyZpx | ldyAbx => exact .read (ReadOp.within_ok fun _ _ => Cpu.within_yNZ rfl rfl _ _)
  case ldyImm => exact .readImm (ReadOp.within_ok fun _ _ => Cpu.within_yNZ rfl rfl _ _)
  case adcInx | adcZp | adcAbs | adcIny | adcZpx | adcAby | adcAbx => exact .read (within_opAdc rfl rfl rfl rfl)
  case adcImm => exact .readImm (within_opAdc rfl rfl rfl rfl)
  case sbcInx | sbcZp | sbcAbs | sbcIny | sbcZpx | sbcAby | sbcAbx => exact .read (within_opSbc rfl rfl rfl rfl)
  case sbcImm => exact .readImm (within_opSbc rfl rfl rfl rfl)
  case cmpInx | cmpZp | cmpAbs | cmpIny | cmpZpx | cmpAby | cmpAbx | cpxZp | cpxAbs | cpyZp | cpyAbs =>
    exact .read (ReadOp.within_ok fun _ _ => Cpu.within_setCompare rfl rfl _ _ _)
  case cmpImm | cpxImm | cpyImm => exact .readImm (ReadOp.within_ok fun _ _ => Cpu.within_setCompare rfl rfl _ _ _)
  case bitZp | bitAbs => exact .read (ReadOp.within_ok fun _ _ => Cpu.within_setBit rfl rfl _ _ _)
  case staInx | staZp | staAbs | staIny | staZpx | staAby | staAbx | stxZp | stxAbs | stxZpy | styZp | styAbs | styZpx =>
    exact .write
  case aslZp | aslAbs | aslZpx | aslAbx | rolZp | rolAbs | rolZpx | rolAbx | lsrZp | lsrAbs | lsrZpx | lsrAbx | rorZp
      | rorAbs | rorZpx | rorAbx =>
    exact .modify fun _ _ => Cpu.within_setShift rfl rfl _ _
  case aslAcc | rolAcc | lsrAcc | rorAcc => exact .accumulator rfl fun _ _ => Cpu.within_setShift rfl rfl _ _
  case decZp | decAbs | decZpx | decAbx | incZp | incAbs | incZpx | incAbx =>
    exact .modify fun _ _ => Cpu.within_setNZ rfl _ _
  case inx | dex | tax | tsx => exact .implied fun _ => Cpu.within_xNZ rfl rfl _ _
  case iny | dey | tay => exact .implied fun _ => Cpu.within_yNZ rfl rfl _ _
  case txa | tya => exact .implied fun _ => Cpu.within_aNZ rfl rfl _ _
  case txs => exact .implied fun _ => Cpu.within_sp rfl _ _
  case clc | sec => exact .implied fun _ => Cpu.within_setFlag (f := .c) rfl _ _
  case cli | sei => exact .implied fun _ => Cpu.within_setFlag (f := .i) rfl _ _
  case clv => exact .implied fun _ => Cpu.within_setFlag (f := .v) rfl _ _
  case cld | sed => exact .implied fun _ => Cpu.within_setFlag (f := .d) rfl _ _
  case nop => exact .implied fun _ => .of_regs rfl
  case bpl | bmi | bvc | bvs | bcc | bcs | bne | beq => exact .branch
  case pha | php => exact .push rfl
  case pla => exact .pull rfl fun _ _ => Cpu.within_aNZ rfl rfl _ _
  case plp => exact .pull rfl fun _ _ => Cpu.within_p (fun f => by cases f <;> rfl) _ _
  case jmpAbs =>
    exact .staged (fun _ => rfl) (.staged (fun _ => rfl)
      (.retires (g := fun c => { c with pc := word c.dbuf c.tmp }) fun _ => .of_regs rfl))
  case jmpInd =>
    exact .staged (fun _ => rfl) (.staged (fun _ => rfl) (.staged (fun _ => rfl) (.staged (fun _ => rfl)
      (.retires (g := fun c => { c with pc := word c.dbuf c.tl }) fun _ => .of_regs rfl))))
  case jsr =>
    exact .staged (fun _ => rfl) (.staged (fun _ => rfl)
      (.cons (fun c => Cpu.within_push rfl cfg (hiByte c.pc) c) (.cons (fun c => Cpu.within_push rfl cfg (loByte c.pc) c)
        (.staged (fun _ => rfl) (.retires (g := fun c => { c with pc := word c.dbuf c.tmp }) fun _ => .of_regs rfl)))))
  case rts =>
    exact .staged (fun _ => rfl) (.staged (fun _ => rfl)
      (.cons (fun c => Cpu.within_pull rfl cfg c)
        (.cons (fun c => Cpu.Within.trans (c' := { c with tl := c.dbuf }) (.of_regs rfl) (Cpu.within_pull rfl cfg _))
          (.staged (fun _ => rfl) (.retires (g := Cpu.incPc) fun _ => .of_regs rfl)))))
  case rti =>
    have hp : ∀ f, writesFlag f .rti = true := fun f => by cases f <;> rfl
    exact .staged (fun _ => rfl) (.staged (fun _ => rfl)
      (.cons (fun c => Cpu.within_pull rfl cfg c)
        (.cons (fun c => (Cpu.within_p hp _ c).trans (Cpu.within_pull rfl cfg _))
          (.cons (fun c => Cpu.Within.trans (c' := { c with tl := c.dbuf }) (.of_regs rfl) (Cpu.within_pull rfl cfg _))
            (.retires (g := fun c => { c with pc := word c.dbuf c.tl }) fun _ => .of_regs rfl)))))
  case brk =>
    exact .staged (fun _ => rfl) (.cons (fun c => Cpu.Within.trans (c' := c.incPc) (.of_regs rfl)
      (Cpu.within_push rfl cfg (hiByte (c.pc + 1)) _)) (.entryTail rfl rfl))
  case nmi | irq =>
    exact .cons (fun c => Cpu.within_push rfl cfg (hiByte c.pc) c) (.entryTail rfl rfl)
  case reset =>
    have hp : ∀ f, writesFlag f .reset = true := fun f => by cases f <;> rfl
    have hclear : ∀ c : Cpu, c.Within .reset { c with sp := 0xFF#8, p := 0x30#8, a := 0#8, x := 0#8, y := 0#8 } := fun c =>
      ((((Cpu.within_sp rfl 0xFF#8 c).trans (Cpu.within_p hp 0x30#8 _)).trans (Cpu.within_a rfl 0#8 _)).trans
        (Cpu.within_x rfl 0#8 _)).trans (Cpu.within_y rfl 0#8 _)
    exact .cons (fun c => (hclear c).trans (.of_regs rfl)) (.staged (fun _ => rfl)
      (.retires (g := fun c => { c with pc := word c.dbuf c.tl, resPend := false }) fun _ => .of_regs rfl))
  all_goals exact .retires (g := Cpu.incPc) fun _ => .of_regs rfl

/-- How a run that answers a next state begins: its first micro-step goes on into a clock cycle and the rest of the run, or
it retires and is the run's end (R153, R160). -/
theorem runFrom_cons_eq_next {k : Nat} {u : Micro} {us : List Micro} {ops : List (Option Byte)} {s t : State}
    (h : runFrom k (u :: us) ops s = .next t) :
    (∃ c, u s.cpu = .more c ∧
      runFrom (k + 1) us ops.tail ((s.withCpu { c with cyc := k + 1 }).operandCycle (ops.headD none)) = .next t) ∨
      ∃ c, u s.cpu = .retired c ∧ t = s.withCpu { c with cyc := 0 } := by
  cases he : u s.cpu with
  | more c => simp only [runFrom, he] at h; exact .inl ⟨c, rfl, h⟩
  | retired c => rw [runFrom_retired he] at h; cases h; exact .inr ⟨c, rfl, rfl⟩
  | refuse r => rw [runFrom_refuse he] at h; cases h

/-- A run changes the CPU as its micro-steps do; the bus cycles between them touch no register (R160). -/
theorem runFrom_within {k : Nat} {us : List Micro} {ops : List (Option Byte)} {s t : State} (hus : SequenceWithin i us)
    (hrun : runFrom k us ops s = .next t) : s.cpu.Within i t.cpu := by
  induction us generalizing k ops s with
  | nil => cases hrun; exact .of_regs rfl
  | cons u us ih =>
    obtain ⟨hu, hus⟩ := List.forall_mem_cons.mp hus
    specialize hu s.cpu
    obtain ⟨c, he, hrest⟩ | ⟨c, he, rfl⟩ := runFrom_cons_eq_next hrun
    · rw [he] at hu
      obtain ⟨l, d, hc, -⟩ := State.operandCycle_cycled (ops.headD none) (s.withCpu { c with cyc := k + 1 })
      have hcycle : c.Within i ((s.withCpu { c with cyc := k + 1 }).operandCycle (ops.headD none)).cpu := by
        rw [hc]; exact .of_regs rfl
      exact Cpu.Within.trans hu (hcycle.trans (ih hus hrest))
    · rw [he] at hu
      obtain ⟨d, rfl, hd⟩ := hu
      exact hd.trans (.of_regs rfl)

/-- From its dispatch to its retire an instruction changes what it is listed for. -/
theorem exec_within {s t : State} (h : exec i s = .next t) : s.cpu.Within i t.cpu :=
  runFrom_within (sequenceOf_within s.cfg i) ((exec_eq_run i s).symm.trans h)

end Within
end Sys2Proof.Machine

open Sys2Proof Sys2Proof.Machine

/-- Settles O37: an instruction changes what it is listed for (`exec_within`). -/
theorem onlyListedInstructionsWriteRegisters : Obligations.OnlyListedInstructionsWriteRegisters := fun _ _ _ h =>
  ⟨(exec_within h).a, (exec_within h).x, (exec_within h).y, (exec_within h).sp⟩

/-- Settles O38: an instruction changes what it is listed for (`exec_within`). -/
theorem onlyListedInstructionsWriteFlags : Obligations.OnlyListedInstructionsWriteFlags := fun _ _ _ h =>
  ⟨(exec_within h).flag, (exec_within h).bit5⟩
end

section
/-! ### Bits 5 and 4 of the status byte (R39) -/

namespace Sys2Proof.Machine

theorem State.statusOk_iff {s : State} : s.statusOk = true ↔ s.cpu.p.getLsbD 5 = true ∧ s.cpu.p.getLsbD 4 = true := by
  simp only [State.statusOk, Bool.and_eq_true]

theorem State.statusOk_congr {s t : State} (h : t.cpu.p = s.cpu.p) : t.statusOk = s.statusOk := by
  simp only [State.statusOk, h]

theorem getLsbD_five_forceStatus (p : Byte) : (forceStatus p).getLsbD 5 = true := by
  rw [forceStatus, BitVec.getLsbD_or]
  exact Bool.or_true _

theorem getLsbD_four_forceStatus (p : Byte) : (forceStatus p).getLsbD 4 = true := by
  rw [forceStatus, BitVec.getLsbD_or]
  exact Bool.or_true _

theorem reset_statusOk {s t : State} (h : exec .reset s = .next t) : t.statusOk = true := by
  obtain ⟨u, hu, hretires, -⟩ := run_reset s
  obtain rfl : u = t := Host.Outcome.next.inj (hu.symm.trans h)
  have hp : u.cpu.p = State.reset.cpu.p := congrArg Regs.p hretires.1
  exact (State.statusOk_congr hp).trans rfl

theorem takePlp_regs (v : Byte) (c : Cpu) : (takePlp v c).regs = { c.regs with p := forceStatus v } := rfl

theorem plp_statusOk {s t : State} (h : exec .plp s = .next t) : t.statusOk = true := by
  obtain ⟨u, hu, hretires, -⟩ := run_pull (cfg := s.cfg) (take := takePlp) (s := s)
    (r := { s.regs with
      pc := s.cpu.pc + 1, sp := s.cpu.sp + 1, p := forceStatus (s.peek (stackAddr s.cfg (s.cpu.sp + 1))) })
    [] rfl rfl fun c hc => ⟨by rw [takePlp_regs, hc], rfl⟩
  obtain rfl : u = t := Host.Outcome.next.inj (hu.symm.trans h)
  rw [State.statusOk_iff, show u.cpu.p = forceStatus (s.peek _) from congrArg Regs.p hretires.1]
  exact ⟨getLsbD_five_forceStatus _, getLsbD_four_forceStatus _⟩

theorem rti_statusOk {s t : State} (h : exec .rti s = .next t) : t.statusOk = true := by
  obtain ⟨u, hu, hretires, -⟩ := run_rti s
  obtain rfl : u = t := Host.Outcome.next.inj (hu.symm.trans h)
  rw [State.statusOk_iff, show u.cpu.p = forceStatus (s.peek _) from congrArg Regs.p hretires.1]
  exact ⟨getLsbD_five_forceStatus _, getLsbD_four_forceStatus _⟩

/-- PLP, RTI and RESET are the only writers of `P.B` and bit 5 (R31). -/
theorem writesB_iff {i : Instr} : writesB i = true ↔ i = .plp ∨ i = .rti ∨ i = .reset := by
  constructor
  · intro h
    unfold writesB at h
    split at h
    · exact .inl rfl
    · exact .inr (.inl rfl)
    · exact .inr (.inr rfl)
    · cases h
  · rintro (rfl | rfl | rfl) <;> rfl

/-- An instruction keeps the two bits set, or is one of the three that set them. -/
theorem exec_statusOk {i : Instr} {s t : State} (hs : s.statusOk = true) (h : exec i s = .next t) : t.statusOk = true := by
  cases hw : writesB i with
  | false =>
    obtain ⟨h5, h4⟩ := State.statusOk_iff.mp hs
    have hin := exec_within h
    exact State.statusOk_iff.mpr ⟨(hin.bit5 hw).trans h5, (hin.flag .b hw).trans h4⟩
  | true =>
    obtain rfl | rfl | rfl := writesB_iff.mp hw
    · exact plp_statusOk h
    · exact rti_statusOk h
    · exact reset_statusOk h

/-- The byte that an exception entry pushes has the two bits set if `P` has. -/
theorem Entry.getLsbD_pushedStatus (e : Entry) {p : Byte} {k : Nat} (hk : k < 8) (hi : k ≠ flagBit .i)
    (hp : p.getLsbD k = true) : (e.pushedStatus p).getLsbD k = true := by
  have hmask : (if e.maskAtPush then setFlag .i true p else p).getLsbD k = true := by
    split
    · rw [getLsbD_setFlag _ _ _ hk, if_neg hi, hp]
    · exact hp
  rw [Entry.pushedStatus]
  split
  · rw [forceStatus, BitVec.getLsbD_or, hmask, Bool.true_or]
  · exact hmask

/-- Three pushes and then reads: the last write is the third push. -/
theorem getLast?_filter_write_entry (a1 a2 a3 a4 a5 : Word) (d1 d2 d3 d4 d5 : Byte) :
    ([busWrite a1 d1, busWrite a2 d2, busWrite a3 d3, busRead a4 d4, busRead a5 d5].filter (·.write)).getLast? =
      some (busWrite a3 d3) := rfl

/-- PHP pushes `P | 0x30` (R301). -/
theorem php_lastWrite (s : State) : ((transactions .php s).filter (·.write)).getLast? =
    some (busWrite (stackAddr s.cfg s.cpu.sp) (forceStatus s.cpu.p)) := by
  obtain ⟨t, -, -, -, hbus⟩ := run_push (v := fun c => forceStatus c.p) (s := s) [] rfl
    fun c hc => congrArg (fun r : Regs => forceStatus r.p) hc
  exact congrArg (fun l : List Transaction => (l.filter (·.write)).getLast?) hbus

/-- The last byte that BRK pushes is the status byte (R340). -/
theorem brk_lastWrite (s : State) : ((transactions .brk s).filter (·.write)).getLast? =
    some (busWrite (stackAddr s.cfg (s.cpu.sp - 2)) ((brkEntry s.cfg).pushedStatus s.cpu.p)) := by
  obtain ⟨t, -, -, -, hbus⟩ := run_brk s
  rw [show transactions .brk s = _ from hbus]
  exact getLast?_filter_write_entry ..

/-- The last byte that NMI pushes is the status byte (R366). -/
theorem nmi_lastWrite (s : State) : ((transactions .nmi s).filter (·.write)).getLast? =
    some (busWrite (stackAddr s.cfg (s.cpu.sp - 2)) ((nmiEntry s.cfg).pushedStatus s.cpu.p)) := by
  obtain ⟨t, -, -, -, -, hbus⟩ := run_entry (nmiEntry s.cfg) s
  rw [show transactions .nmi s = _ from hbus]
  exact getLast?_filter_write_entry ..

/-- The last byte that IRQ pushes is the status byte (R367). -/
theorem irq_lastWrite (s : State) : ((transactions .irq s).filter (·.write)).getLast? =
    some (busWrite (stackAddr s.cfg (s.cpu.sp - 2)) ((irqEntry s.cfg).pushedStatus s.cpu.p)) := by
  obtain ⟨t, -, -, -, -, hbus⟩ := run_entry (irqEntry s.cfg) s
  rw [show transactions .irq s = _ from hbus]
  exact getLast?_filter_write_entry ..

end Sys2Proof.Machine

open Sys2Proof Sys2Proof.Machine

/-- Settles O40: `exec_statusOk`, the three instructions that set the bits, and the last writes of the four that push the
status byte. -/
theorem statusBitsStaySet : Obligations.StatusBitsStaySet := by
  refine ⟨fun _ _ _ => exec_statusOk, fun _ _ => reset_statusOk, fun _ _ => plp_statusOk, fun _ _ => rti_statusOk,
    fun s hs i hi => ?_⟩
  obtain ⟨h5, h4⟩ := State.statusOk_iff.mp hs
  have hentry : ∀ e : Entry, (e.pushedStatus s.cpu.p).getLsbD 5 = true ∧ (e.pushedStatus s.cpu.p).getLsbD 4 = true :=
    fun e => ⟨e.getLsbD_pushedStatus (by decide) (by decide) h5, e.getLsbD_pushedStatus (by decide) (by decide) h4⟩
  simp only [List.mem_cons, List.not_mem_nil, or_false] at hi
  obtain rfl | rfl | rfl | rfl := hi
  · exact ⟨_, php_lastWrite s, getLsbD_five_forceStatus _, getLsbD_four_forceStatus _⟩
  · exact ⟨_, brk_lastWrite s, hentry (brkEntry s.cfg)⟩
  · exact ⟨_, nmi_lastWrite s, hentry (nmiEntry s.cfg)⟩
  · exact ⟨_, irq_lastWrite s, hentry (irqEntry s.cfg)⟩
end

section
/-! ### Every array stays in canonical form and within its size (R54, R82, R96) -/

namespace Sys2Proof.Machine

/-- A run of micro-steps keeps what the clock cycles keep and the CPU has no part in. -/
theorem runFrom_keeps {P : State → Prop} (hcpu : ∀ (s : State) (c : Cpu), P s → P (s.withCpu c))
    (hcycle : ∀ s, P s → P s.clockCycle) {k : Nat} {us : List Micro} {ops : List (Option Byte)} {s t : State} (hs : P s)
    (hrun : runFrom k us ops s = .next t) : P t := by
  induction us generalizing k ops s with
  | nil => cases hrun; exact hs
  | cons u us ih =>
    obtain ⟨c, -, hrest⟩ | ⟨c, -, rfl⟩ := runFrom_cons_eq_next hrun
    · have hnext := hcycle _ (hcpu s { c with cyc := k + 1 } hs)
      refine ih ?_ hrest
      cases ops.headD none with
      | none => exact hnext
      | some v => exact hcpu _ _ hnext
    · exact hcpu _ _ hs

theorem State.arraysOk_iff {s : State} : s.arraysOk = true ↔ ∀ d ∈ s.mems, d.arrayOk = true := by
  rw [State.arraysOk, List.all_eq_true]

/-- A device's array after a store at an address, of whatever byte. -/
theorem MemDevice.arrayOk_write {d : MemDevice} (addr : Nat) (v : Byte) (h : d.arrayOk = true) :
    MemDevice.arrayOk { d with cells := Memory.write d.cells (d.index addr) v } = true := by
  simp only [MemDevice.arrayOk, Bool.and_eq_true] at h ⊢
  exact ⟨Memory.wf_write _ _ h.1, Memory.all_write h.2 (decide_eq_true (d.index_lt addr))⟩

theorem MemDevice.arrayOk_load {d : MemDevice} (addr : Nat) (bytes : List Byte) (h : d.arrayOk = true) :
    (d.load addr bytes).arrayOk = true := by
  induction bytes generalizing d addr with
  | nil => exact h
  | cons b bytes ih => exact ih (addr + 1) (MemDevice.arrayOk_write addr b h)

theorem MemDevice.arrayOk_cycle {d : MemDevice} (bs : Buses) (addr : Word) (rd : Bool) (l : DataLine)
    (h : d.arrayOk = true) : (d.cycle bs addr rd l).1.arrayOk = true := by
  unfold MemDevice.cycle
  split
  · split
    · exact MemDevice.arrayOk_writeAt _ _ h
    · exact h
  · exact h

theorem MemDevice.arrayOk_evaluate {d : MemDevice} (bs : Buses) (h : d.arrayOk = true) :
    (d.evaluate bs).1.arrayOk = true := by
  unfold MemDevice.evaluate
  split
  · cases d.rwBus with
    | none => exact h
    | some line =>
      dsimp only
      split
      · exact MemDevice.arrayOk_writeAt _ _ h
      · exact h
  · exact h

/-- Devices of which one is replaced by another that has the property of all. -/
theorem forall_mem_set {P : MemDevice → Prop} {ms : List MemDevice} (h : ∀ d ∈ ms, P d) {e : MemDevice} (he : P e)
    (k : Nat) : ∀ d ∈ ms.set k e, P d := fun d hd => by
  obtain hd | rfl := List.mem_or_eq_of_mem_set hd
  · exact h d hd
  · exact he

/-- A bus cycle keeps every array in canonical form and within its size. -/
theorem memsCycle_arrayOk (bs : Buses) (addr : Word) (rd : Bool) (order : List DeviceId) {ms : List MemDevice}
    (l : DataLine) (h : ∀ d ∈ ms, d.arrayOk = true) :
    ∀ d ∈ (memsCycle bs addr rd order ms l).1, d.arrayOk = true := by
  induction order generalizing ms l with
  | nil => exact h
  | cons id order ih =>
    refine ih _ ?_
    cases id with
    | cpu => exact h
    | mem k =>
      unfold memCycle
      dsimp only
      split
      · exact h
      · next d hd => exact forall_mem_set h (d.arrayOk_cycle _ _ _ _ (h d (List.mem_of_getElem? hd))) k

theorem State.arraysOk_clockCycle {s : State} (h : s.arraysOk = true) : s.clockCycle.arraysOk = true := by
  rw [State.arraysOk_iff] at *
  have hmems := congrArg Prod.fst s.clockCycle_transaction
  dsimp only at hmems
  rw [hmems]
  exact memsCycle_arrayOk _ _ _ _ _ h

theorem exec_arraysOk {i : Instr} {s t : State} (h : s.arraysOk = true) (hexec : exec i s = .next t) :
    t.arraysOk = true :=
  runFrom_keeps (P := fun s => s.arraysOk = true) (fun _ _ h => h) (fun _ => State.arraysOk_clockCycle) h
    ((exec_eq_run i s).symm.trans hexec)

/-- The CPU's `evaluate()` touches no memory device (R150). -/
theorem State.evaluateCpu_mems {s t : State} (h : s.evaluateCpu = .next t) : t.mems = s.mems := by
  unfold State.evaluateCpu at h
  dsimp only at h
  split at h
  · cases h; rfl
  · split at h
    · split at h <;> cases h <;> rfl
    · cases h; rfl

theorem State.arraysOk_evaluateMem {s : State} (k : Nat) (h : s.arraysOk = true) : (s.evaluateMem k).arraysOk = true := by
  rw [State.arraysOk_iff] at *
  unfold State.evaluateMem
  split
  · exact h
  · next d hd => exact forall_mem_set h (d.arrayOk_evaluate _ (h d (List.mem_of_getElem? hd))) k

theorem State.arraysOk_evaluate {s t : State} {id : DeviceId} (h : s.arraysOk = true) (he : s.evaluate id = .next t) :
    t.arraysOk = true := by
  cases id with
  | cpu => rwa [State.arraysOk, State.evaluateCpu_mems he]
  | mem k => cases he; exact State.arraysOk_evaluateMem k h

theorem andThen_eq_next {o : Host.Outcome State Fault Refusal} {f : State → Host.Outcome State Fault Refusal} {t : State}
    (h : andThen o f = .next t) : ∃ s, o = .next s ∧ f s = .next t := by
  cases o with
  | next s => exact ⟨s, rfl, h⟩
  | fault r => cases h
  | refused r => cases h

theorem State.arraysOk_evaluateAll {s t : State} {order : List DeviceId} (h : s.arraysOk = true)
    (he : s.evaluateAll order = .next t) : t.arraysOk = true := by
  induction order generalizing s with
  | nil => cases he; exact h
  | cons id order ih =>
    obtain ⟨u, hu, hrest⟩ := andThen_eq_next he
    exact ih (State.arraysOk_evaluate h hu) hrest

end Sys2Proof.Machine

open Sys2Proof Sys2Proof.Machine

/-- Settles O50: a store keeps the form (`Memory.wf_write`), the loader stores byte by byte, an instruction's clock cycles
and a tick's evaluations store through the devices. -/
theorem memoryStaysCanonical : Obligations.MemoryStaysCanonical :=
  ⟨fun _ a v => Memory.wf_write a v, fun _ a l => MemDevice.arrayOk_load a l, fun _ _ _ => exec_arraysOk,
    fun s _ h => State.arraysOk_evaluateAll (s := s.startTick) h⟩
end

section
/-! ### Every bus stays as R53 allows it -/

namespace Sys2Proof.Machine

/-- What `Bus.wf` asks of a bus besides its width and value. -/
def Bus.kindOk (b : Bus) : Prop :=
  match b.kind with
  | .standard => True
  | .dividedClock n => b.width = 1 ∧ b.div < n
  | _ => b.width = 1

theorem Bus.wf_iff {b : Bus} :
    b.wf = true ↔ (1 ≤ b.width ∧ b.width ≤ Config.busMaxWidth) ∧ b.value ≤ b.mask ∧ b.kindOk := by
  unfold Bus.wf Bus.kindOk
  cases b.kind <;> simp [and_assoc]

/-- A bus with the same wires and a masked value. -/
theorem Bus.wf_of_sameWires {b b' : Bus} (h : b.wf = true) (hw : b.SameWires b') (hv : b'.value ≤ b.mask) :
    b'.wf = true := by
  obtain ⟨hk, hwidth, hdiv⟩ := hw
  have hmask : b'.mask = b.mask := by rw [Bus.mask, Bus.mask, hwidth]
  obtain ⟨hrange, -, hkind⟩ := Bus.wf_iff.mp h
  rw [Bus.wf_iff, hmask, hwidth]
  exact ⟨hrange, hv, by rwa [Bus.kindOk, hk, hwidth, hdiv]⟩

theorem Bus.wf_write {b : Bus} (v : Nat) (h : b.wf = true) : (b.write v).wf = true := by
  refine Bus.wf_of_sameWires h (Bus.write_wires v b) ?_
  have hv := (Bus.wf_iff.mp h).2.1
  unfold Bus.write
  split
  case h_1 => exact Nat.and_le_right
  case h_4 => exact Nat.and_le_left.trans hv
  all_goals exact hv

theorem Bus.reset_wires (b : Bus) : b.SameWires b.reset := by
  refine ⟨Bus.reset_kind b, Bus.reset_width b, ?_⟩
  unfold Bus.reset; split <;> rfl

theorem Bus.wf_reset {b : Bus} (h : b.wf = true) : b.reset.wf = true := by
  refine Bus.wf_of_sameWires h b.reset_wires ?_
  obtain ⟨-, hv, hkind⟩ := Bus.wf_iff.mp h
  unfold Bus.reset
  split
  case h_1 => exact Nat.zero_le _
  case h_4 hk =>
    have hwidth : b.width = 1 := by simpa only [Bus.kindOk, hk] using hkind
    have hmask : b.mask = 1 := congrArg (fun w => 2 ^ w - 1) hwidth
    exact hmask.ge
  all_goals exact hv

theorem Bus.wf_advance {b : Bus} (h : b.wf = true) : b.advance.wf = true := by
  obtain ⟨hrange, hv, hkind⟩ := Bus.wf_iff.mp h
  unfold Bus.advance
  split
  case h_1 n hk =>
    obtain ⟨hwidth, hdiv⟩ : b.width = 1 ∧ b.div < n := by simpa only [Bus.kindOk, hk] using hkind
    split
    · have htoggle : (if b.value = 0 then 1 else 0) ≤ b.mask := by rw [Bus.mask, hwidth]; split <;> decide
      exact Bus.wf_iff.mpr ⟨hrange, htoggle, by simp only [Bus.kindOk, hk]; exact ⟨hwidth, by omega⟩⟩
    · exact Bus.wf_iff.mpr ⟨hrange, hv, by simp only [Bus.kindOk, hk]; exact ⟨hwidth, by omega⟩⟩
  case h_2 => exact h

/-- An absent bus is as R53 allows it, so the handles without a bus need no exception. -/
theorem Buses.wf_iff {bs : Buses} : bs.wf = true ↔ ∀ id, (bs.get id).wf = true := by
  simp only [Buses.wf, List.all_eq_true, Buses.mem_ids]
  refine ⟨fun h id => ?_, fun h id _ => h id⟩
  cases hid : bs.has id with
  | true => exact h id hid
  | false => rw [Buses.get_of_not_has hid]; rfl

theorem Buses.wf_map {f : Bus → Bus} (hf : ∀ b : Bus, b.wf = true → (f b).wf = true) {bs : Buses} (h : bs.wf = true) :
    (bs.map f).wf = true := by
  rw [Buses.wf_iff] at *
  intro id
  rw [Buses.get_map_eq_ite]
  split
  · exact hf _ (h id)
  · rfl

/-- An operation on one bus, which is asked only of the bus that stands there. -/
theorem Buses.wf_modify {f : Bus → Bus} {id : BusId} {bs : Buses} (hf : (f (bs.get id)).wf = true) (h : bs.wf = true) :
    (bs.modify id f).wf = true := by
  rw [Buses.wf_iff] at *
  intro id'
  rw [Buses.get_modify_eq_ite]
  split
  case isTrue he => rw [he.1]; exact hf
  case isFalse => exact h id'

theorem Buses.wf_drive (writes : List (BusId × Nat)) {bs : Buses} (h : bs.wf = true) : (bs.drive writes).wf = true := by
  unfold Buses.drive
  induction writes generalizing bs with
  | nil => exact h
  | cons w ws ih => exact ih (Buses.wf_modify (Bus.wf_write _ (Buses.wf_iff.mp h w.1)) h)

/-- T1 to T3 (R70). -/
theorem State.wf_startTick {s : State} (h : s.buses.wf = true) : s.startTick.buses.wf = true := by
  refine Buses.wf_drive _ ?_
  have hreset : s.buses.reset.wf = true := Buses.wf_map (fun _ => Bus.wf_reset) h
  unfold Buses.advance
  split
  · exact hreset
  · exact Buses.wf_map (fun _ => Bus.wf_advance) hreset

theorem State.wf_lineTicks (n : Nat) {s : State} (h : s.buses.wf = true) : (State.lineTicks n s).buses.wf = true := by
  induction n generalizing s with
  | zero => exact h
  | succ n ih => exact ih (State.wf_startTick (s := s) h)

theorem Bus.wf_held (v : Nat) {b : Bus} (h : b.wf = true) : (b.held v).wf = true :=
  Bus.wf_of_sameWires h ⟨rfl, rfl, rfl⟩ Nat.and_le_right

theorem Bus.wf_heldLine (l : DataLine) {b : Bus} (hw : b.width = 8) (h : b.wf = true) : (b.heldLine l).wf = true :=
  Bus.wf_of_sameWires h ⟨rfl, rfl, rfl⟩ (by rw [Bus.mask, hw]; exact Nat.le_pred_of_lt l.byte.isLt)

theorem Buses.wf_holdOutputs {p : Ports} {bs : Buses} (ho : bs.OutputsOk p) (c : Cpu) (l : DataLine) (h : bs.wf = true) :
    (bs.holdOutputs p c l).wf = true := by
  have hheld : ∀ (v : Nat) (id : BusId) {bs' : Buses}, bs'.wf = true → (bs'.modify id (Bus.held v)).wf = true :=
    fun v id bs' h' => Buses.wf_modify (Bus.wf_held v (Buses.wf_iff.mp h' id)) h'
  have hwires : ∀ (v : Nat) (id : BusId) (bs' : Buses), bs'.SameWiring (bs'.modify id (Bus.held v)) :=
    fun v id bs' => Buses.sameWiring_modify (f := Bus.held v) (fun _ => rfl) (fun _ => rfl) bs' id
  have hwidth := (((hwires c.oaddr.toNat p.addr bs).trans (hwires c.orw.toNat p.rw _)).trans
    (hwires c.osync.toNat p.sync _)).width p.data
  have h3 := hheld c.osync.toNat p.sync (hheld c.orw.toNat p.rw (hheld c.oaddr.toNat p.addr h))
  exact Buses.wf_modify (Bus.wf_heldLine l (hwidth.trans ho.dataWidth) (Buses.wf_iff.mp h3 p.data)) h3

/-- A clock cycle on a platform of the instruction level. -/
theorem State.Ready.wf_clockCycle {s : State} (h : s.Ready) (hb : s.buses.wf = true) : s.clockCycle.buses.wf = true :=
  Buses.wf_holdOutputs (h.lineTicks (2 * s.cfg.clkDiv)).outputsOk _ _ (State.wf_lineTicks _ hb)

end Sys2Proof.Machine
end

section
/-! ### The invariant of instruction boundaries (R159, R179) -/

namespace Sys2Proof.Machine

/-- What the invariant says: the state is as ready as the clock cycles of an instruction need it and leave it, the clock has
just risen, `retire` has staged the opcode fetch, and buses, arrays and status byte are well-formed. -/
theorem State.inv_iff {s : State} : s.inv = true ↔
    s.Ready ∧ s.ClockAt true 0 ∧ s.atBoundary = true ∧ s.buses.wf = true ∧ s.arraysOk = true ∧ s.statusOk = true := by
  constructor
  · intro h
    obtain ⟨hlevel, hready, hclock, -⟩ := State.ready_of_inv h
    simp only [State.inv, State.instructionLevel, Bool.and_eq_true] at h
    obtain ⟨⟨⟨⟨⟨hboundary, -⟩, -⟩, hbuses⟩, harrays⟩, hstatus⟩ := h
    exact ⟨hready, hclock, hboundary, hbuses, harrays, hstatus⟩
  · rintro ⟨hready, hclock, hboundary, hbuses, harrays, hstatus⟩
    have hrise : s.afterRisingEdge = true := by
      simp only [State.afterRisingEdge, hclock.lastClk, hclock.value, hclock.div, Bool.toNat_true, decide_true, Bool.and_self]
    simp only [State.inv, State.instructionLevel, hboundary, hrise, hready.platform, List.all_eq_true.mpr hready.inputs,
      State.settled_iff.mpr hready.settled, hbuses, harrays, hstatus, Bool.and_self]

/-- The state in which a micro-step runs, from a boundary to the next one: everything the invariant says that does not
change inside an instruction. -/
structure State.Running (s : State) : Prop where
  ready : s.Ready
  clock : s.ClockAt true 0
  buses : s.buses.wf = true

/-- The CPU's registers have no part in it, but for the output registers and the clock's tracker. -/
theorem State.Running.withCpu {s : State} (h : s.Running) {c : Cpu} (ha : c.oaddr = s.cpu.oaddr) (hr : c.orw = s.cpu.orw)
    (hd : c.odata = s.cpu.odata) (hl : c.lastClk = s.cpu.lastClk) : (s.withCpu c).Running where
  ready := h.ready.withCpu ha hr hd
  clock := ⟨hl.trans h.clock.lastClk, h.clock.value, h.clock.div⟩
  buses := h.buses

/-- No micro-step touches the pins. -/
theorem State.Running.withPins {s : State} (h : s.Running) {c : Cpu} (hc : c.pins = s.cpu.pins) : (s.withCpu c).Running :=
  h.withCpu (congrArg Pins.oaddr hc) (congrArg Pins.orw hc) (congrArg Pins.odata hc) (congrArg Pins.lastClk hc)

theorem State.Running.clockCycle {s : State} (h : s.Running) : s.clockCycle.Running :=
  ⟨h.ready.clockCycle, h.ready.clockAt_clockCycle h.clock, h.ready.wf_clockCycle h.buses⟩

theorem State.Running.operandCycle {s : State} (h : s.Running) (b : Option Byte) : (s.operandCycle b).Running := by
  cases b with
  | none => exact h.clockCycle
  | some v => exact h.clockCycle.withCpu rfl rfl rfl rfl

/-- A micro-step that retires ends the run, with the opcode fetch staged (R159). -/
theorem State.Running.retired {i : Instr} {s : State} {c : Cpu} (h : s.Running)
    (hpins : (MicroEnd.retired c).KeepsPins s.cpu) (hwithin : (MicroEnd.retired c).Within i s.cpu) :
    (s.withCpu { c with cyc := 0 }).Running ∧ (s.withCpu { c with cyc := 0 }).atBoundary = true := by
  obtain ⟨d, rfl, -⟩ := hwithin
  exact ⟨h.withPins hpins, by simp [State.atBoundary]⟩

/-- A run of a proper sequence goes from clock cycle to clock cycle and ends at a boundary. -/
theorem State.Running.runFrom {i : Instr} {k : Nat} {us : List Micro} {ops : List (Option Byte)} {s t : State}
    (hproper : ProperSequence us) (hwithin : SequenceWithin i us) (h : s.Running) (hrun : runFrom k us ops s = .next t) :
    t.Running ∧ t.atBoundary = true := by
  induction hproper generalizing k ops s with
  | @last u hpins hstops =>
    have hu := hwithin u List.mem_cons_self s.cpu
    specialize hpins s.cpu
    specialize hstops s.cpu
    obtain ⟨c, he, -⟩ | ⟨c, he, rfl⟩ := runFrom_cons_eq_next hrun
    · rw [he] at hstops; exact hstops.elim
    · rw [he] at hpins hu; exact h.retired hpins hu
  | @cons u us hpins hus ih =>
    obtain ⟨hu, hwithin⟩ := List.forall_mem_cons.mp hwithin
    specialize hpins s.cpu
    specialize hu s.cpu
    obtain ⟨c, he, hrest⟩ | ⟨c, he, rfl⟩ := runFrom_cons_eq_next hrun
    · rw [he] at hpins
      have hnext : (s.withCpu { c with cyc := k + 1 }).Running := h.withPins hpins
      exact ih hwithin (hnext.operandCycle _) hrest
    · rw [he] at hpins hu; exact h.retired hpins hu

/-- An instruction runs from a state between its clock cycles to a boundary. -/
theorem State.Running.exec {i : Instr} {s t : State} (h : s.Running) (hexec : exec i s = .next t) :
    t.Running ∧ t.atBoundary = true :=
  h.runFrom (sequenceOf_proper s.cfg i) (sequenceOf_within s.cfg i) ((exec_eq_run i s).symm.trans hexec)

/-- The reset state's memory holds 0x00 everywhere. -/
theorem State.reset_peek (w : Word) : State.reset.peek w = 0x00#8 :=
  State.peek_plain (s := State.reset) (d := MemDevice.new 16 8 .addr .data .gnd (some .rw)) rfl rfl rfl rfl rfl w

end Sys2Proof.Machine

open Sys2Proof Sys2Proof.Machine

/-- Settles O1: the vector lies in a memory of zeros (`State.reset_peek`). -/
theorem resetStateHoldsResetValues : Obligations.ResetStateHoldsResetValues := by
  have hpc : State.reset.peek16 Config.default.resetVector = 0x0000#16 :=
    congrArg₂ word (State.reset_peek _) (State.reset_peek _)
  refine ⟨?_, rfl, rfl, rfl, rfl, rfl, rfl, rfl, (State.reset_peek _).symm, (State.reset_peek _).symm⟩
  exact congrArg (Regs.mk 0 0 0 0xFF 0x30) hpc.symm

/-- Settles O2: each part of the invariant, evaluated. -/
theorem resetStateSatisfiesInvariant : Obligations.ResetStateSatisfiesInvariant := by
  have hlevel : State.reset.instructionLevel = true := by decide
  have hsettled : State.reset.settled = true := by decide
  have hbuses : State.reset.buses.wf = true := by decide
  have harrays : State.reset.arraysOk = true := rfl
  have hstatus : State.reset.statusOk = true := rfl
  simp only [Obligations.ResetStateSatisfiesInvariant, State.inv, hlevel, hsettled, hbuses, harrays, hstatus,
    Bool.and_self]

/-- Settles O3: cycle 0 and the instruction's own clock cycles keep what the invariant says between boundaries
(`State.Running`), the last micro-step stages the opcode fetch, and arrays and status byte stay well-formed through every
instruction (`exec_arraysOk`, `exec_statusOk`). -/
theorem stepKeepsInvariant : Obligations.StepKeepsInvariant := by
  intro s t hinv hstep
  obtain ⟨hlevel, -⟩ := State.ready_of_inv hinv
  obtain ⟨hready, hclock, -, hbuses, harrays, hstatus⟩ := State.inv_iff.mp hinv
  rw [step, if_pos hlevel] at hstep
  cases hsel : s.cycleZero.selected with
  | none => rw [hsel] at hstep; cases hstep
  | some i =>
    rw [hsel] at hstep
    have hrunning : s.Running := ⟨hready, hclock, hbuses⟩
    have hzero : s.cycleZero.Running := hrunning.clockCycle.withCpu rfl rfl rfl rfl
    obtain ⟨ht, hboundary⟩ := hzero.exec hstep
    have harrays0 : s.cycleZero.arraysOk = true := State.arraysOk_clockCycle harrays
    have hstatus0 : s.cycleZero.statusOk = true := (State.statusOk_congr (State.clockCycle_p s)).trans hstatus
    exact State.inv_iff.mpr ⟨ht.ready, ht.clock, hboundary, ht.buses, exec_arraysOk harrays0 hstep,
      exec_statusOk hstatus0 hstep⟩
end

section
/-! ### The operations of a bus, kind by kind (R61 to R69) -/

namespace Sys2Proof.Machine

@[simp] theorem Bus.mask_write (v : Nat) (b : Bus) : (b.write v).mask = b.mask := by
  rw [Bus.mask, Bus.mask, Bus.write_width]

@[simp] theorem Bus.mask_reset (b : Bus) : b.reset.mask = b.mask := by
  rw [Bus.mask, Bus.mask, Bus.reset_width]

/-- Every kind first copies its value (R66). -/
@[simp] theorem Bus.last_reset (b : Bus) : b.reset.last = b.value := by
  unfold Bus.reset; split <;> rfl

section Kinds
variable {b : Bus}

/-! #### The standard bus (R61 to R64) -/

theorem Bus.read_write_standard (h : b.kind = .standard) (v : Nat) : (b.write v).read = v &&& b.mask := by
  rw [Bus.read_standard ((Bus.write_kind v b).trans h), Bus.write_standard h]

theorem Bus.count_write_standard (h : b.kind = .standard) (v : Nat) : (b.write v).count = b.count + 1 := by
  rw [Bus.write_standard h]

theorem Bus.reset_standard (h : b.kind = .standard) :
    b.reset = { b with last := b.value, value := 0, count := 0 } := by
  simp only [Bus.reset, h]

theorem Bus.read_reset_standard (h : b.kind = .standard) : b.reset.read = 0 := by
  rw [Bus.read_standard ((Bus.reset_kind b).trans h), Bus.reset_standard h]

theorem Bus.count_reset_standard (h : b.kind = .standard) : b.reset.count = 0 := by
  rw [Bus.reset_standard h]

theorem Bus.hasConflict_standard (h : b.kind = .standard) : b.hasConflict = decide (1 < b.count) := by
  simp only [Bus.hasConflict, h]

/-! #### The open-collector bus (R68) -/

theorem Bus.read_openCollector (h : b.kind = .openCollector) : b.read = b.value := by
  simp only [Bus.read, h]

/-- A write is ANDed. -/
theorem Bus.read_write_openCollector (h : b.kind = .openCollector) (v : Nat) : (b.write v).read = b.read &&& v := by
  rw [Bus.read_openCollector h, Bus.read_openCollector ((Bus.write_kind v b).trans h)]
  simp only [Bus.write, h]

theorem Bus.reset_openCollector (h : b.kind = .openCollector) :
    b.reset = { b with last := b.value, value := 1, count := 0 } := by
  simp only [Bus.reset, h]

theorem Bus.read_reset_openCollector (h : b.kind = .openCollector) : b.reset.read = 1 := by
  rw [Bus.read_openCollector ((Bus.reset_kind b).trans h), Bus.reset_openCollector h]

theorem Bus.hasConflict_openCollector (h : b.kind = .openCollector) : b.hasConflict = false := by
  simp only [Bus.hasConflict, h]

/-! #### Fixed sources (R67) -/

theorem Bus.read_write_fixed (h : b.kind = .fixedHigh ∨ b.kind = .fixedLow) (v : Nat) : (b.write v).read = b.read := by
  obtain h | h := h <;> simp only [Bus.read, Bus.write, h]

theorem Bus.hasConflict_write_fixed (h : b.kind = .fixedHigh ∨ b.kind = .fixedLow) (v : Nat) :
    (b.write v).hasConflict = true := by
  obtain h | h := h <;> simp [Bus.hasConflict, Bus.write, h]

theorem Bus.hasConflict_reset_fixed (h : b.kind = .fixedHigh ∨ b.kind = .fixedLow) : b.reset.hasConflict = false := by
  obtain h | h := h <;> simp [Bus.hasConflict, Bus.reset, h]

theorem Bus.read_fixedHigh (h : b.kind = .fixedHigh) : b.read = 1 := by
  simp only [Bus.read, h]

theorem Bus.read_fixedLow (h : b.kind = .fixedLow) : b.read = 0 := by
  simp only [Bus.read, h]

/-! #### The divided clock (R69) -/

/-- A clock of divisor `n`, `j` ticks after its creation. -/
structure Bus.IsClock (n j : Nat) (b : Bus) : Prop where
  kind : b.kind = .dividedClock n
  value : b.value = j / n % 2
  div : b.div = j % n

theorem Bus.isClock_new {n : Nat} (width : Nat) : (Bus.new (.dividedClock n) width).IsClock n 0 where
  kind := rfl
  value := by rw [Nat.zero_div]; rfl
  div := (Nat.zero_mod n).symm

theorem Bus.IsClock.reset {n j : Nat} (h : b.IsClock n j) : b.reset.IsClock n j := by
  obtain ⟨hk, hv, hd⟩ := h
  constructor <;> simp only [Bus.reset, hk, hv, hd]

/-- A write does nothing. -/
theorem Bus.IsClock.write {n j : Nat} (h : b.IsClock n j) (v : Nat) : (b.write v).IsClock n j := by
  have hw : b.write v = b := by simp only [Bus.write, h.kind]
  rwa [hw]

/-- The tick that fills the counter toggles the level. -/
theorem Bus.IsClock.advance {n j : Nat} (hn : 1 ≤ n) (h : b.IsClock n j) : b.advance.IsClock n (j + 1) := by
  obtain ⟨hk, hv, hd⟩ := h
  have hj : j + 1 = n * (j / n) + (j % n + 1) := by rw [← Nat.add_assoc, Nat.div_add_mod]
  have hlt : j % n < n := Nat.mod_lt j hn
  by_cases hfull : j % n + 1 = n
  · have hquot : (j + 1) / n = j / n + 1 := by
      rw [hj, hfull, ← Nat.mul_succ, Nat.mul_div_cancel_left _ hn]
    have hrem : (j + 1) % n = 0 := by
      rw [hj, hfull, ← Nat.mul_succ, Nat.mul_mod_right]
    constructor <;> simp only [Bus.advance, hk, hv, hd, if_pos hfull, hquot, hrem]
    split <;> omega
  · have hsmall : j % n + 1 < n := by omega
    have hquot : (j + 1) / n = j / n := by
      rw [hj, Nat.mul_add_div hn, Nat.div_eq_of_lt hsmall, Nat.add_zero]
    have hrem : (j + 1) % n = j % n + 1 := by
      rw [hj, Nat.mul_add_mod, Nat.mod_eq_of_lt hsmall]
    constructor <;> simp only [Bus.advance, hk, hv, hd, if_neg hfull, hquot, hrem]

/-- `j` ticks, each with a reset and a write. -/
theorem Bus.isClock_ticks {n : Nat} (hn : 1 ≤ n) (j v width : Nat) :
    ((List.range j).foldl (fun c _ => (c.reset.advance).write v) (Bus.new (.dividedClock n) width)).IsClock n j := by
  induction j with
  | zero => exact Bus.isClock_new width
  | succ j ih =>
    rw [List.range_succ, List.foldl_append]
    exact (ih.reset.advance hn).write v

theorem Bus.IsClock.read {n j : Nat} (h : b.IsClock n j) : b.read = j / n % 2 := by
  simp only [Bus.read, h.kind, h.value]

theorem Bus.IsClock.hasConflict {n j : Nat} (h : b.IsClock n j) : b.hasConflict = false := by
  simp only [Bus.hasConflict, h.kind]

end Kinds
end Sys2Proof.Machine

open Sys2Proof Sys2Proof.Machine

/-- Settles O44: the rules of the standard and of the open-collector bus above, which hold after a write and after a reset
because neither changes the kind. -/
theorem busOperationsByKind : Obligations.BusOperationsByKind := by
  constructor
  · intro b v w h
    have hreset : b.reset.kind = .standard := (Bus.reset_kind b).trans h
    have hwrite : ∀ {b : Bus} {v : Nat}, b.kind = .standard → (b.write v).kind = .standard := (Bus.write_kind _ _).trans
    refine ⟨Bus.read_write_standard h v, Bus.count_write_standard h v, Bus.hasConflict_standard h, ?_, ?_, ?_, ?_,
      Bus.read_reset_standard (hwrite h), Bus.count_reset_standard h, Bus.last_reset b⟩
    · rw [Bus.hasConflict_standard (hwrite (hwrite hreset)), Bus.count_write_standard (hwrite hreset),
        Bus.count_write_standard hreset, Bus.count_reset_standard h]
      rfl
    · rw [Bus.read_write_standard (hwrite hreset), Bus.mask_write, Bus.mask_reset]
    · rw [Bus.hasConflict_standard (hwrite hreset), Bus.count_write_standard hreset, Bus.count_reset_standard h]
      rfl
    · rw [Bus.hasConflict_standard ((Bus.reset_kind _).trans (hwrite h)), Bus.count_reset_standard (hwrite h)]
      rfl
  · intro b v w h
    have hreset : b.reset.kind = .openCollector := (Bus.reset_kind b).trans h
    have hwrite : ∀ {b : Bus} {v : Nat}, b.kind = .openCollector → (b.write v).kind = .openCollector :=
      (Bus.write_kind _ _).trans
    have hlow : (b.reset.write 0).read = 0 := by rw [Bus.read_write_openCollector hreset, Nat.and_zero]
    refine ⟨Bus.read_reset_openCollector h, Bus.last_reset b, by rw [Bus.reset_openCollector h],
      Bus.read_write_openCollector h v, hlow, ?_, Bus.hasConflict_openCollector (hwrite (hwrite hreset)),
      Bus.hasConflict_openCollector h⟩
    rw [Bus.read_write_openCollector (hwrite hreset), hlow, Nat.zero_and]

/-- Settles O45: a clock counts its ticks (`Bus.isClock_ticks`); a fixed source reads its level, whatever is written. -/
theorem clocksAndFixedSourcesKeepTheirLevel : Obligations.ClocksAndFixedSourcesKeepTheirLevel := by
  refine ⟨fun n j v hn => ?_, fun b v h => ?_, fun _ => Bus.read_fixedHigh, fun _ => Bus.read_fixedLow, Bus.last_reset⟩
  · have hclock := Bus.isClock_ticks hn j v 1
    exact ⟨hclock.read, hclock.div, hclock.hasConflict⟩
  · have hwritten : (b.write v).kind = .fixedHigh ∨ (b.write v).kind = .fixedLow := by rwa [Bus.write_kind]
    exact ⟨Bus.read_write_fixed h v, Bus.hasConflict_write_fixed h v, Bus.hasConflict_reset_fixed hwritten⟩
end

section
/-! ### A memory device's `evaluate()`, case by case (R82 to R86) -/

namespace Sys2Proof.Machine

/-- The device has a read/write line, and it reads 0 (R82). -/
def MemDevice.Writes (bs : Buses) (d : MemDevice) : Prop :=
  ∃ line, d.rwBus = some line ∧ (bs.get line).read = 0

section Evaluate
variable {bs : Buses} {d : MemDevice}

theorem MemDevice.evaluate_disabled (he : (bs.get d.enBus).read ≠ 0) : d.evaluate bs = (d, bs) := by
  rw [MemDevice.evaluate, if_neg he]

theorem MemDevice.evaluate_store (he : (bs.get d.enBus).read = 0) (hw : d.Writes bs) :
    d.evaluate bs = (d.writeAt (bs.get d.addrBus).read (BitVec.ofNat 8 (bs.get d.dataBus).read), bs) := by
  obtain ⟨line, hline, hzero⟩ := hw
  simp [MemDevice.evaluate, he, hline, hzero]

theorem MemDevice.evaluate_drive (he : (bs.get d.enBus).read = 0) (hw : ¬ d.Writes bs) :
    d.evaluate bs = (d, bs.modify d.dataBus (Bus.write (d.readAt (bs.get d.addrBus).read).toNat)) := by
  cases hline : d.rwBus with
  | none => simp [MemDevice.evaluate, he, hline]
  | some line =>
    have hone : (bs.get line).read ≠ 0 := fun hzero => hw ⟨line, hline, hzero⟩
    simp [MemDevice.evaluate, he, hline, hone]

/-- It does nothing, or it stores, or it drives. -/
theorem MemDevice.evaluate_cases (bs : Buses) (d : MemDevice) :
    ((bs.get d.enBus).read ≠ 0 ∧ d.evaluate bs = (d, bs)) ∨
      ((bs.get d.enBus).read = 0 ∧ d.Writes bs ∧
        d.evaluate bs = (d.writeAt (bs.get d.addrBus).read (BitVec.ofNat 8 (bs.get d.dataBus).read), bs)) ∨
      ((bs.get d.enBus).read = 0 ∧ ¬ d.Writes bs ∧
        d.evaluate bs = (d, bs.modify d.dataBus (Bus.write (d.readAt (bs.get d.addrBus).read).toNat))) := by
  by_cases he : (bs.get d.enBus).read = 0
  · by_cases hw : d.Writes bs
    · exact .inr (.inl ⟨he, hw, MemDevice.evaluate_store he hw⟩)
    · exact .inr (.inr ⟨he, hw, MemDevice.evaluate_drive he hw⟩)
  · exact .inl ⟨he, MemDevice.evaluate_disabled he⟩

/-- Never both: it leaves itself or the buses as they are (R86). -/
theorem MemDevice.evaluate_keeps (bs : Buses) (d : MemDevice) : (d.evaluate bs).1 = d ∨ (d.evaluate bs).2 = bs := by
  obtain ⟨-, h⟩ | ⟨-, -, h⟩ | ⟨-, -, h⟩ := d.evaluate_cases bs <;> rw [h]
  · exact .inl rfl
  · exact .inr rfl
  · exact .inl rfl

/-- Without a read/write line it never stores (R83). -/
theorem MemDevice.not_writes_of_rom (h : d.rwBus = none) : ¬ d.Writes bs := fun ⟨line, hline, _⟩ => by
  rw [h] at hline; cases hline

theorem MemDevice.evaluate_rom (h : d.rwBus = none) : (d.evaluate bs).1 = d := by
  obtain ⟨-, he⟩ | ⟨-, hw, -⟩ | ⟨-, -, he⟩ := d.evaluate_cases bs
  · rw [he]
  · exact absurd hw (MemDevice.not_writes_of_rom h)
  · rw [he]

theorem MemDevice.frame_evaluate (bs : Buses) (d : MemDevice) : (d.evaluate bs).1.frame = d.frame := by
  obtain ⟨-, h⟩ | ⟨-, -, h⟩ | ⟨-, -, h⟩ := d.evaluate_cases bs <;> exact congrArg (fun x => x.1.frame) h

theorem MemDevice.wf_evaluate (bs : Buses) (h : Memory.wf d.cells = true) :
    Memory.wf (d.evaluate bs).1.cells = true := by
  obtain ⟨-, he⟩ | ⟨-, -, he⟩ | ⟨-, -, he⟩ := d.evaluate_cases bs <;> rw [he]
  · exact h
  · exact Memory.wf_write _ _ h
  · exact h

end Evaluate

/-! #### Addresses and data are masked (R82, R84) -/

section Masked
variable {d : MemDevice}

theorem MemDevice.index_eq_mod (d : MemDevice) (addr : Nat) : d.index addr = addr % 2 ^ d.aw :=
  Nat.and_two_pow_sub_one_eq_mod addr d.aw

/-- The contents repeat every `2^AW`. -/
theorem MemDevice.index_add_mul (d : MemDevice) (addr k : Nat) : d.index (addr + 2 ^ d.aw * k) = d.index addr := by
  rw [d.index_eq_mod, d.index_eq_mod, Nat.add_mul_mod_self_left]

theorem MemDevice.dataMasked_dataMasked (d : MemDevice) (v : Byte) : d.dataMasked (d.dataMasked v) = d.dataMasked v := by
  rw [MemDevice.dataMasked, MemDevice.dataMasked, BitVec.and_assoc, BitVec.and_self]

/-- Masking a byte of the data bus is masking its value. -/
theorem MemDevice.dataMasked_ofNat (d : MemDevice) (v : Nat) :
    d.dataMasked (BitVec.ofNat 8 v) = BitVec.ofNat 8 (v &&& (2 ^ d.dw - 1)) :=
  BitVec.ofNat_and.symm

theorem MemDevice.toNat_dataMasked (d : MemDevice) (v : Byte) : (d.dataMasked v).toNat = v.toNat &&& (2 ^ d.dw - 1) := by
  have hv : v.toNat &&& (2 ^ 8 - 1) = v.toNat := by
    rw [Nat.and_two_pow_sub_one_eq_mod, Nat.mod_eq_of_lt v.isLt]
  rw [MemDevice.dataMasked, BitVec.toNat_and, BitVec.toNat_ofNat, ← Nat.and_two_pow_sub_one_eq_mod,
    Nat.and_comm (2 ^ d.dw - 1), ← Nat.and_assoc, hv]

theorem MemDevice.read_writeAt (h : Memory.wf d.cells = true) (addr a : Nat) (v : Byte) :
    Memory.read (d.writeAt addr v).cells a = if a = d.index addr then d.dataMasked v else Memory.read d.cells a :=
  Memory.read_write _ _ _ h

theorem MemDevice.writeAt_writeAt (h : Memory.wf d.cells = true) (addr : Nat) (v : Byte) :
    (d.writeAt addr v).writeAt addr v = d.writeAt addr v :=
  congrArg (fun m => ({ d with cells := m } : MemDevice)) (Memory.write_write d.cells _ _ h)

end Masked

/-! #### A byte stays until it is written over (R85) -/

/-- Two devices that differ at most in their bytes have the same widths and the same wiring. -/
theorem MemDevice.frame_eq_iff {d e : MemDevice} : e.frame = d.frame ↔
    e.aw = d.aw ∧ e.dw = d.dw ∧ e.addrBus = d.addrBus ∧ e.dataBus = d.dataBus ∧ e.enBus = d.enBus ∧
      e.rwBus = d.rwBus := by
  simp only [MemDevice.frame, MemDevice.mk.injEq, and_true]

/-- `e` is the device `d` with other bytes, of which the one at `a` is `v`. -/
structure MemDevice.HoldsAt (d : MemDevice) (a : Nat) (v : Byte) (e : MemDevice) : Prop where
  frame : e.frame = d.frame
  wf : Memory.wf e.cells = true
  read : Memory.read e.cells a = v

/-- An evaluation that is no write to `a`. -/
theorem MemDevice.HoldsAt.evaluate {d e : MemDevice} {a : Nat} {v : Byte} {line : BusId} {b : Buses}
    (h : d.HoldsAt a v e) (hline : d.rwBus = some line)
    (hb : ¬ ((b.get d.enBus).read = 0 ∧ (b.get line).read = 0 ∧ (b.get d.addrBus).read % 2 ^ d.aw = a)) :
    d.HoldsAt a v (e.evaluate b).1 := by
  refine ⟨(e.frame_evaluate b).trans h.frame, MemDevice.wf_evaluate b h.wf, ?_⟩
  obtain ⟨haw, -, haddr, -, hen, hrw⟩ := MemDevice.frame_eq_iff.mp h.frame
  obtain ⟨-, he⟩ | ⟨hzero, ⟨line', hline', hwrite⟩, he⟩ | ⟨-, -, he⟩ := e.evaluate_cases b <;> rw [he]
  · exact h.read
  · obtain rfl : line' = line := Option.some.inj (hline'.symm.trans (hrw.trans hline))
    have hne : a ≠ e.index (b.get e.addrBus).read := fun heq =>
      hb ⟨hen ▸ hzero, hwrite, by rw [heq, e.index_eq_mod, haw, haddr]⟩
    rw [MemDevice.read_writeAt h.wf, if_neg hne, h.read]
  · exact h.read

theorem MemDevice.HoldsAt.evaluates {d e : MemDevice} {a : Nat} {v : Byte} {line : BusId} {between : List Buses}
    (h : d.HoldsAt a v e) (hline : d.rwBus = some line)
    (hb : ∀ b ∈ between,
      ¬ ((b.get d.enBus).read = 0 ∧ (b.get line).read = 0 ∧ (b.get d.addrBus).read % 2 ^ d.aw = a)) :
    d.HoldsAt a v (between.foldl (fun e b => (e.evaluate b).1) e) := by
  induction between generalizing e with
  | nil => exact h
  | cons b between ih =>
    obtain ⟨hfirst, hrest⟩ := List.forall_mem_cons.mp hb
    exact ih (h.evaluate hline hfirst) hrest

end Sys2Proof.Machine

open Sys2Proof Sys2Proof.Machine

/-- Settles O47: the write puts the masked byte at the address (`MemDevice.read_writeAt`), what comes between leaves it there
(`MemDevice.HoldsAt.evaluates`), and the read drives it. -/
theorem memoryDeviceRoundTrip : Obligations.MemoryDeviceRoundTrip := by
  intro d line bs bs' between hwf hline hen hrw hbetween hen' hrw' haddr' d'
  have hstore := MemDevice.evaluate_store hen ⟨line, hline, hrw⟩
  have hfirst : d.HoldsAt ((bs.get d.addrBus).read % 2 ^ d.aw) (d.dataMasked (BitVec.ofNat 8 (bs.get d.dataBus).read))
      (d.evaluate bs).1 := by
    refine ⟨d.frame_evaluate bs, MemDevice.wf_evaluate bs hwf, ?_⟩
    rw [hstore, MemDevice.read_writeAt hwf, if_pos (d.index_eq_mod _).symm]
  obtain ⟨hframe, -, hread⟩ : d.HoldsAt _ _ d' := hfirst.evaluates hline hbetween
  obtain ⟨haw, hdw, haddr, hdata, hbus, hline'⟩ := MemDevice.frame_eq_iff.mp hframe
  have hquiet : ¬ d'.Writes bs' := by
    rintro ⟨other, hother, hzero⟩
    obtain rfl : other = line := Option.some.inj (hother.symm.trans (hline'.trans hline))
    exact hrw' hzero
  have hmask : ∀ v, d'.dataMasked v = d.dataMasked v := fun v => by rw [MemDevice.dataMasked, MemDevice.dataMasked, hdw]
  have hbyte : d'.readAt (bs'.get d'.addrBus).read = d.dataMasked (BitVec.ofNat 8 (bs.get d.dataBus).read) := by
    rw [MemDevice.readAt, d'.index_eq_mod, haw, haddr, haddr', hread, hmask, d.dataMasked_dataMasked]
  rw [MemDevice.evaluate_drive (hbus ▸ hen') hquiet, hbyte, hdata]

/-- Settles O48: the three cases of `evaluate()`, with address and data masked. -/
theorem memoryDeviceActsOnlyWhenEnabled : Obligations.MemoryDeviceActsOnlyWhenEnabled := by
  intro d bs hwf
  refine ⟨MemDevice.evaluate_disabled, fun he hw => ?_, fun he hw => ?_, d.index_lt _, fun a k => ?_⟩
  · have hstore := MemDevice.evaluate_store he hw
    refine ⟨congrArg Prod.snd hstore, by rw [hstore]; rfl, fun a => ?_, ?_⟩
    · rw [hstore, MemDevice.read_writeAt hwf, d.dataMasked_ofNat]
      rfl
    · rw [hstore]
      exact (congrArg Prod.fst (MemDevice.evaluate_store (d := d.writeAt _ _) he hw)).trans (d.writeAt_writeAt hwf _ _)
  · exact (MemDevice.evaluate_drive he hw).trans (by rw [MemDevice.readAt, d.toNat_dataMasked]; rfl)
  · rw [MemDevice.readAt, d.index_add_mul]; rfl
end

section
/-! ### What no tick changes (R8, R54, R65) -/

namespace Sys2Proof.Machine

/-- The same buses have the same handles. -/
theorem Buses.SameWiring.ids {bs bs' : Buses} (h : bs.SameWiring bs') : bs'.ids = bs.ids := by
  have hlen : bs'.aux.length = bs.aux.length := by
    have hlt : ∀ n, n < bs'.aux.length ↔ n < bs.aux.length := fun n => by
      simpa [Buses.has] using h.has (.aux n)
    have h1 := hlt bs.aux.length
    have h2 := hlt bs'.aux.length
    omega
  rw [Buses.ids, Buses.ids, hlen]

/-- The same system as R8, R54 and R65 fix it at assembly: the parameters, the buses with their kinds and widths, the memory
devices but for their bytes. -/
structure State.SameAssembly (s t : State) : Prop where
  cfg : t.cfg = s.cfg
  wiring : s.buses.SameWiring t.buses
  frames : t.mems.map MemDevice.frame = s.mems.map MemDevice.frame

theorem State.SameAssembly.trans {s t u : State} (h : s.SameAssembly t) (h' : t.SameAssembly u) : s.SameAssembly u :=
  ⟨h'.cfg.trans h.cfg, h.wiring.trans h'.wiring, h'.frames.trans h.frames⟩

theorem Buses.sameWiring_write (id : BusId) (v : Nat) (bs : Buses) : bs.SameWiring (bs.modify id (Bus.write v)) :=
  Buses.sameWiring_modify (Bus.write_kind v) (Bus.write_width v) bs id

theorem Buses.sameWiring_driveOutputs (p : Ports) (c : Cpu) (bs : Buses) : bs.SameWiring (bs.driveOutputs p c) := by
  have hctrl := ((Buses.sameWiring_write p.addr c.oaddr.toNat bs).trans (Buses.sameWiring_write p.rw c.orw.toNat _)).trans
    (Buses.sameWiring_write p.sync c.osync.toNat _)
  unfold Buses.driveOutputs
  split
  · exact hctrl
  · exact hctrl.trans (Buses.sameWiring_write p.data c.odata.toNat _)

/-- Whatever the edge, the CPU's `evaluate()` latches the lines, leaves some CPU, and drives its outputs (R150). -/
theorem State.evaluateCpu_eq_next {s t : State} (h : s.evaluateCpu = .next t) :
    ∃ c, t = (s.latchLines.withCpu c).driveOutputs := by
  unfold State.evaluateCpu at h
  dsimp only at h
  split at h
  · cases h; exact ⟨_, rfl⟩
  · split at h
    · split at h <;> cases h <;> exact ⟨_, rfl⟩
    · cases h; exact ⟨s.latchLines.cpu, rfl⟩

theorem State.sameAssembly_evaluateCpu {s t : State} (h : s.evaluateCpu = .next t) : s.SameAssembly t := by
  obtain ⟨c, rfl⟩ := State.evaluateCpu_eq_next h
  exact ⟨rfl, Buses.sameWiring_driveOutputs _ _ _, rfl⟩

theorem MemDevice.sameWiring_evaluate (bs : Buses) (d : MemDevice) : bs.SameWiring (d.evaluate bs).2 := by
  obtain ⟨-, h⟩ | ⟨-, -, h⟩ | ⟨-, -, h⟩ := d.evaluate_cases bs <;> rw [h]
  · exact .refl bs
  · exact .refl bs
  · exact Buses.sameWiring_write _ _ bs

/-- A device in the place of one that `f` does not tell from it. -/
theorem map_set_of_eq {β : Type} {f : MemDevice → β} {ms : List MemDevice} {k : Nat} {d e : MemDevice}
    (hd : ms[k]? = some d) (he : f e = f d) : (ms.set k e).map f = ms.map f := by
  obtain ⟨hk, rfl⟩ := List.getElem?_eq_some_iff.mp hd
  rw [List.map_set, he, ← List.getElem_map f (h := by simpa using hk), List.set_getElem_self]

theorem State.sameAssembly_evaluateMem (k : Nat) (s : State) : s.SameAssembly (s.evaluateMem k) := by
  unfold State.evaluateMem
  split
  · exact ⟨rfl, .refl _, rfl⟩
  · next d hd => exact ⟨rfl, d.sameWiring_evaluate _, map_set_of_eq hd (d.frame_evaluate _)⟩

theorem State.sameAssembly_evaluateAll {s t : State} {order : List DeviceId} (h : s.evaluateAll order = .next t) :
    s.SameAssembly t := by
  induction order generalizing s with
  | nil => cases h; exact ⟨rfl, .refl _, rfl⟩
  | cons id order ih =>
    obtain ⟨u, hu, hrest⟩ := andThen_eq_next h
    refine State.SameAssembly.trans ?_ (ih hrest)
    cases id with
    | cpu => exact State.sameAssembly_evaluateCpu hu
    | mem k => cases hu; exact s.sameAssembly_evaluateMem k

theorem State.sameAssembly_tick {s t : State} (h : s.tick = .next t) : s.SameAssembly t :=
  State.SameAssembly.trans (t := s.startTick) ⟨rfl, s.startTick_sameWiring, rfl⟩ (State.sameAssembly_evaluateAll h)

/-- "`AW <- min(requested, 24)`" (R80). -/
theorem MemDevice.aw_new (aw dw : Nat) (addrBus dataBus enBus : BusId) (rwBus : Option BusId) :
    (MemDevice.new aw dw addrBus dataBus enBus rwBus).aw = if aw ≤ 24 then aw else 24 :=
  Nat.min_def

end Sys2Proof.Machine

open Sys2Proof Sys2Proof.Machine

/-- Settles O46: every part of a tick keeps the assembly (`State.sameAssembly_tick`); what creation gives is read off. -/
theorem assemblyNeverChanges : Obligations.AssemblyNeverChanges := by
  refine ⟨fun s t htick => ?_, fun w n e he => ?_, fun aw dw b1 b2 b3 b4 => ?_⟩
  · have h := State.sameAssembly_tick htick
    exact ⟨h.cfg, h.wiring.ids, fun id => ⟨h.wiring.kind id, h.wiring.width id⟩, h.frames⟩
  · simp only [List.mem_cons, List.not_mem_nil, or_false] at he
    obtain rfl | rfl | rfl | rfl | rfl := he <;> rfl
  · exact ⟨MemDevice.aw_new .., rfl, rfl, rfl, rfl, rfl, rfl, fun _ => rfl⟩
end

section
/-! ### The memory after a run is that of its write transactions, in order (R13, R91, R92, R160) -/

namespace Sys2Proof.Machine

/-- The bytes that a list of bus transactions writes, in order. -/
def storesOf (l : List Transaction) : List (Word × Byte) :=
  (l.filter (·.write)).map fun x => (x.addr, x.data)

theorem State.SameMemory.pokes {s t : State} (h : s.SameMemory t) (l : List (Word × Byte)) :
    (s.pokes l).SameMemory (t.pokes l) := by
  induction l generalizing s t with
  | nil => exact h
  | cons e l ih => exact ih (h.poke e.1 e.2)

@[simp] theorem State.pokes_cfg (l : List (Word × Byte)) (s : State) : (s.pokes l).cfg = s.cfg := by
  induction l generalizing s with
  | nil => rfl
  | cons e l ih => exact ih (s.poke e.1 e.2)

/-- A micro-step that goes on stages a read, which no store follows, or a write, which is stored by the next one. -/
theorem State.sameMemory_operandCycle (b : Option Byte) {c : Cpu} (k : Nat) (s : State) :
    (if c.prw then s else s.poke c.paddr c.pdata).SameMemory ((s.withCpu { c with cyc := k }).operandCycle b) := by
  obtain ⟨l, d, -, -, hread, hwrite⟩ := State.operandCycle_cycled b (s.withCpu { c with cyc := k })
  split
  case isTrue hr => exact (State.sameMemory_withCpu _ s).trans (hread hr).2
  case isFalse hr =>
    exact ((State.sameMemory_withCpu { c with cyc := k } s).poke _ _).trans (hwrite (by simpa using hr))

/-- The memory after a run: that of the write transactions of its bus cycles. -/
theorem runFrom_sameMemory {k : Nat} {us : List Micro} {ops : List (Option Byte)} {s t : State}
    (hrun : runFrom k us ops s = .next t) : (s.pokes (storesOf (busFrom k us ops s))).SameMemory t := by
  induction us generalizing k ops s with
  | nil => cases hrun; exact .refl _
  | cons u us ih =>
    obtain ⟨c, hu, hrest⟩ | ⟨c, hu, rfl⟩ := runFrom_cons_eq_next hrun
    · have hcycle := State.sameMemory_operandCycle (ops.headD none) (c := c) (k + 1) s
      refine State.SameMemory.trans ?_ (ih hrest)
      simp only [busFrom, hu]
      cases hr : c.prw with
      | true => rw [hr] at hcycle; exact hcycle.pokes _
      | false => rw [hr] at hcycle; exact hcycle.pokes _
    · rw [busFrom_retired hu]; exact State.sameMemory_withCpu _ s

/-- The memory after an instruction: that of its write transactions. -/
theorem exec_sameMemory {i : Instr} {s t : State} (h : exec i s = .next t) :
    (s.pokes (storesOf (transactions i s))).SameMemory t :=
  runFrom_sameMemory ((exec_eq_run i s).symm.trans h)

end Sys2Proof.Machine
end

section
/-! ### Which instructions have a write cycle (R171 to R174, R105) -/

namespace Sys2Proof.Machine

/-- A micro-step's end stages no write. -/
def MicroEnd.Reads : MicroEnd → Prop
  | .more c => c.prw = true
  | .retired _ => True
  | .refuse _ => True

/-- A sequence of micro-steps none of which stages a write. -/
def SequenceReads (us : List Micro) : Prop :=
  ∀ u ∈ us, ∀ c, (u c).Reads

namespace SequenceReads
variable {us us' : List Micro} {u : Micro} {m : AddrMode} {cfg : Config}

theorem nil : SequenceReads [] := by simp [SequenceReads]

theorem cons (h : ∀ c, (u c).Reads) (hus : SequenceReads us) : SequenceReads (u :: us) :=
  List.forall_mem_cons.mpr ⟨h, hus⟩

theorem append (h : SequenceReads us) (h' : SequenceReads us') : SequenceReads (us ++ us') :=
  List.forall_mem_append.mpr ⟨h, h'⟩

/-- A micro-step that stages a read. -/
theorem staged {g : Cpu → Cpu} (h : ∀ c, (g c).prw = true) (hus : SequenceReads us) :
    SequenceReads ((fun c => .more (g c)) :: us) :=
  cons h hus

theorem retires {g : Cpu → Cpu} : SequenceReads [fun c => .retired (g c)] :=
  cons (fun _ => trivial) nil

theorem formation : SequenceReads (formation m Cpu.fetch) := by
  cases m with
  | zp => exact staged (fun _ => rfl) nil
  | zpx | zpy | abs | abx | aby => exact staged (fun _ => rfl) (staged (fun _ => rfl) nil)
  | inx => exact staged (fun _ => rfl) (staged (fun _ => rfl) (staged (fun _ => rfl) (staged (fun _ => rfl) nil)))
  | iny => exact staged (fun _ => rfl) (staged (fun _ => rfl) (staged (fun _ => rfl) nil))

theorem readEnd {op : ReadOp} {g : Cpu → Cpu} : SequenceReads [fun c => readEnd op (g c)] := by
  refine cons (fun c => ?_) nil
  unfold Machine.readEnd
  split <;> trivial

theorem read {op : ReadOp} : SequenceReads (seqRead m op) :=
  append (staged (fun _ => rfl) formation) (readEnd (g := id))

theorem readImm {op : ReadOp} : SequenceReads (seqReadImm op) :=
  staged (fun _ => rfl) (readEnd (g := Cpu.incPc))

theorem implied {act : Cpu → Cpu} : SequenceReads (seqImplied act) :=
  staged (fun _ => rfl) retires

theorem accumulator {f : ModifyOp} : SequenceReads (seqAccumulator f) :=
  staged (fun _ => rfl) retires

theorem branch {cond : Cpu → Bool} : SequenceReads (seqBranch cond) := by
  refine staged (fun _ => rfl) (cons (fun c => ?_) retires)
  split
  · exact rfl
  · trivial

theorem pull {take : Byte → Cpu → Cpu} : SequenceReads (seqPull cfg take) :=
  staged (fun _ => rfl) (staged (fun _ => rfl) (staged (fun _ => rfl) retires))

end SequenceReads

/-- Every instruction that is not listed as storing has read cycles only. -/
theorem sequenceOf_reads (cfg : Config) {i : Instr} (h : writesMemory i = false) : SequenceReads (sequenceOf cfg i) := by
  cases i
  case staInx | styZp | staZp | stxZp | styAbs | staAbs | stxAbs | staIny | styZpx | staZpx | stxZpy | staAby | staAbx |
      aslZp | aslAbs | aslZpx | aslAbx | rolZp | rolAbs | rolZpx | rolAbx | lsrZp | lsrAbs | lsrZpx | lsrAbx | rorZp |
      rorAbs | rorZpx | rorAbx | decZp | decAbs | decZpx | decAbx | incZp | incAbs | incZpx | incAbx | jsr | brk | php |
      pha | nmi | irq =>
    cases h
  case oraInx | oraZp | oraAbs | oraIny | oraZpx | oraAby | oraAbx | andInx | bitZp | andZp | bitAbs | andAbs | andIny |
      andZpx | andAby | andAbx | eorInx | eorZp | eorAbs | eorIny | eorZpx | eorAby | eorAbx | ldaInx | ldyZp | ldaZp |
      ldxZp | ldyAbs | ldaAbs | ldxAbs | ldaIny | ldyZpx | ldaZpx | ldxZpy | ldaAby | ldyAbx | ldaAbx | ldxAby |
      cmpInx | cpyZp | cmpZp | cpyAbs | cmpAbs | cmpIny | cmpZpx | cmpAby | cmpAbx | cpxZp | cpxAbs | adcInx | adcZp |
      adcAbs | adcIny | adcZpx | adcAby | adcAbx | sbcInx | sbcZp | sbcAbs | sbcIny | sbcZpx | sbcAby | sbcAbx =>
    exact .read
  case oraImm | andImm | eorImm | ldyImm | ldxImm | ldaImm | cpyImm | cmpImm | cpxImm | adcImm | sbcImm => exact .readImm
  case aslAcc | rolAcc | lsrAcc | rorAcc => exact .accumulator
  case clc | sec | cli | sei | dey | txa | tya | txs | tay | tax | clv | tsx | iny | dex | cld | inx | nop | sed =>
    exact .implied
  case bpl | bmi | bvc | bvs | bcc | bcs | bne | beq => exact .branch
  case plp | pla => exact .pull
  case jmpAbs | reset => exact .staged (fun _ => rfl) (.staged (fun _ => rfl) .retires)
  case jmpInd =>
    exact .staged (fun _ => rfl) (.staged (fun _ => rfl) (.staged (fun _ => rfl) (.staged (fun _ => rfl) .retires)))
  case rti | rts =>
    exact .staged (fun _ => rfl) (.staged (fun _ => rfl) (.staged (fun _ => rfl) (.staged (fun _ => rfl)
      (.staged (fun _ => rfl) .retires))))
  all_goals exact .retires

/-- No write is staged, so no transaction is a write. -/
theorem busFrom_write_eq_false {k : Nat} {us : List Micro} {ops : List (Option Byte)} {s : State}
    (hus : SequenceReads us) : ∀ x ∈ busFrom k us ops s, x.write = false := by
  induction us generalizing k ops s with
  | nil => simp [busFrom]
  | cons u us ih =>
    obtain ⟨hu, hus⟩ := List.forall_mem_cons.mp hus
    specialize hu s.cpu
    unfold busFrom
    split
    · simp
    · simp
    · next c he =>
      rw [he] at hu
      exact List.forall_mem_cons.mpr ⟨congrArg not hu, ih hus⟩

theorem storesOf_eq_nil {l : List Transaction} (h : ∀ x ∈ l, x.write = false) : storesOf l = [] := by
  rw [storesOf, List.filter_eq_nil_iff.mpr (by simpa using h), List.map_nil]

end Sys2Proof.Machine

open Sys2Proof Sys2Proof.Machine

/-- Settles O39: the memory is that of the write transactions (`exec_sameMemory`), of which there are none
(`sequenceOf_reads`). -/
theorem onlyStoringInstructionsWriteMemory : Obligations.OnlyStoringInstructionsWriteMemory := by
  intro i s t h
  have hmem := exec_sameMemory h
  refine ⟨hmem.cfg.trans (State.pokes_cfg _ s), fun hw => ?_⟩
  have hreads : ∀ x ∈ transactions i s, x.write = false := busFrom_write_eq_false (sequenceOf_reads s.cfg hw)
  rw [storesOf_eq_nil hreads] at hmem
  exact ⟨⟨hmem.mems, fun addr => hmem.peek addr⟩, hreads⟩
end

section
/-! ### The opcode fetch after an instruction sees the memory that the instruction left (R91, R92, R108) -/

namespace Sys2Proof.Machine

/-- Retiring leaves the fetch of the next opcode staged (R159). -/
theorem MicroEnd.Within.atBoundary {i : Instr} {c c' : Cpu} (h : (MicroEnd.retired c').Within i c) (s : State) :
    (s.withCpu { c' with cyc := 0 }).atBoundary = true := by
  obtain ⟨d, rfl, -⟩ := h
  simp [State.atBoundary]

/-- A run that answers a next state has retired. -/
theorem runFrom_atBoundary {i : Instr} {k : Nat} {us : List Micro} {ops : List (Option Byte)} {s t : State}
    (hproper : ProperSequence us) (hwithin : SequenceWithin i us) (hrun : runFrom k us ops s = .next t) :
    t.atBoundary = true := by
  induction hproper generalizing k ops s with
  | @last u hpins hstops =>
    specialize hstops s.cpu
    obtain ⟨c, he, -⟩ | ⟨c, he, rfl⟩ := runFrom_cons_eq_next hrun
    · rw [he] at hstops; exact hstops.elim
    · exact (he ▸ hwithin u List.mem_cons_self s.cpu).atBoundary s
  | @cons u us hpins hus ih =>
    obtain ⟨hu, hwithin⟩ := List.forall_mem_cons.mp hwithin
    obtain ⟨c, he, hrest⟩ | ⟨c, he, rfl⟩ := runFrom_cons_eq_next hrun
    · exact ih hwithin hrest
    · exact (he ▸ hu s.cpu).atBoundary s

theorem exec_atBoundary {i : Instr} {s t : State} (h : exec i s = .next t) : t.atBoundary = true :=
  runFrom_atBoundary (sequenceOf_proper s.cfg i) (sequenceOf_within s.cfg i) ((exec_eq_run i s).symm.trans h)

/-- From a boundary, cycle 0 samples the byte at `PC`. -/
theorem State.cycleZero_dbuf {s : State} (h : s.atBoundary = true) : s.cycleZero.cpu.dbuf = s.peek s.cpu.pc := by
  simp only [State.atBoundary, Bool.and_eq_true, decide_eq_true_eq] at h
  obtain ⟨hread, -, -, haddr⟩ := h
  exact (s.clockCycle_dbuf_read hread).trans (by rw [haddr])

/-- The last of the stores at an address is the last of the write transactions there. -/
theorem lookup_reverse_storesOf (l : List Transaction) (a : Word) :
    (storesOf l).reverse.lookup a = ((l.filter fun x => x.write && decide (x.addr = a)).getLast?).map (·.data) := by
  induction l using List.reverseRecOn with
  | nil => rfl
  | append_singleton l x ih =>
    cases hw : x.write with
    | false => simpa [storesOf, hw] using ih
    | true =>
      by_cases ha : x.addr = a
      · simp [storesOf, hw, ha]
      · have hne : (a == x.addr) = false := by simpa using Ne.symm ha
        simpa [storesOf, hw, ha, List.lookup, hne] using ih

end Sys2Proof.Machine

open Sys2Proof Sys2Proof.Machine

/-- Settles O51: the memory after the instruction is that of its write transactions (`exec_sameMemory`), and on a plain RAM
an address reads as the last byte written to it (`State.peek_pokes_plain`). -/
theorem readsReturnTheLatestWrite : Obligations.ReadsReturnTheLatestWrite := by
  refine ⟨fun s a b v h => ⟨State.plainRam_poke h a v, State.peek_poke_plain h a v b⟩, fun i s t x hram h hlast => ?_⟩
  calc t.cycleZero.cpu.dbuf
      = t.peek t.cpu.pc := State.cycleZero_dbuf (exec_atBoundary h)
    _ = ((storesOf (transactions i s)).reverse.lookup t.cpu.pc).getD (s.peek t.cpu.pc) :=
      ((exec_sameMemory h).peek _).trans (State.peek_pokes_plain hram _ _)
    _ = x.data := by rw [lookup_reverse_storesOf, hlast]; rfl
end

section
/-! ### Who drives the data bus in a bus cycle (R82, R83, R92, R430) -/

namespace Sys2Proof.Machine

/-- In a bus cycle a device drives the data bus if it is enabled and does not store: in a read, or without a read/write
line (R82, R83). -/
def MemDevice.drives (bs : Buses) (rd : Bool) (d : MemDevice) : Bool :=
  d.enabled bs && (rd || d.rwBus.isNone)

/-- The device of an evaluation order is flagged: the CPU never, a memory device by its index. -/
def flagged (flags : List Bool) : DeviceId → Bool
  | .cpu => false
  | .mem k => flags.getD k false

section Cycle
variable {bs : Buses} {addr : Word} {rd : Bool}

/-- A device's cycle leaves it, or the device has a read/write line and stores. -/
theorem MemDevice.cycle_cases (d : MemDevice) (l : DataLine) :
    (d.cycle bs addr rd l).1 = d ∨
      (d.rwBus.isSome = true ∧ (d.cycle bs addr rd l).1 = d.writeAt addr.toNat l.byte) := by
  unfold MemDevice.cycle
  split
  · split
    · next hw => exact .inr ⟨(Bool.and_eq_true_iff.mp hw).2, rfl⟩
    · exact .inl rfl
  · exact .inl rfl

theorem MemDevice.cycle_writers (d : MemDevice) (l : DataLine) :
    (d.cycle bs addr rd l).2.writers = l.writers + (d.drives bs rd).toNat := by
  unfold MemDevice.cycle MemDevice.drives
  cases d.enabled bs
  · rfl
  · cases rd <;> cases d.rwBus <;> rfl

theorem MemDevice.drives_cycle (d : MemDevice) (l : DataLine) :
    MemDevice.drives bs rd (d.cycle bs addr rd l).1 = d.drives bs rd := by
  obtain h | ⟨-, h⟩ := d.cycle_cases l <;> rw [h]
  rfl

/-- What a device's cycle does not change, a bus cycle does not change along the memory devices. -/
theorem memCycle_map {β : Type} {f : MemDevice → β} (hf : ∀ d l, f (d.cycle bs addr rd l).1 = f d) (id : DeviceId)
    (ms : List MemDevice) (l : DataLine) : (memCycle bs addr rd id ms l).1.map f = ms.map f := by
  cases id with
  | cpu => rfl
  | mem k =>
    unfold memCycle
    dsimp only
    split
    · rfl
    · next d hd => exact map_set_of_eq hd (hf d l)

theorem memsCycle_map {β : Type} {f : MemDevice → β} (hf : ∀ d l, f (d.cycle bs addr rd l).1 = f d)
    (order : List DeviceId) (ms : List MemDevice) (l : DataLine) :
    (memsCycle bs addr rd order ms l).1.map f = ms.map f := by
  induction order generalizing ms l with
  | nil => rfl
  | cons id order ih => exact (ih _ _).trans (memCycle_map hf id ms l)

theorem memCycle_writers (id : DeviceId) (ms : List MemDevice) (l : DataLine) :
    (memCycle bs addr rd id ms l).2.writers =
      l.writers + (flagged (ms.map (MemDevice.drives bs rd)) id).toNat := by
  cases id with
  | cpu => rfl
  | mem k =>
    simp only [memCycle, flagged, List.getD_eq_getElem?_getD, List.getElem?_map]
    cases ms[k]? with
    | none => rfl
    | some d => exact d.cycle_writers l

/-- A bus cycle adds one writer for each device of the order that drives. -/
theorem memsCycle_writers (order : List DeviceId) (ms : List MemDevice) (l : DataLine) :
    (memsCycle bs addr rd order ms l).2.writers =
      l.writers + order.countP (flagged (ms.map (MemDevice.drives bs rd))) := by
  induction order generalizing ms l with
  | nil => rfl
  | cons id order ih =>
    rw [memsCycle, ih, memCycle_map MemDevice.drives_cycle, memCycle_writers, List.countP_cons, Nat.add_assoc,
      Nat.add_comm (Bool.toNat _), Bool.toNat, Bool.cond_eq_ite]

end Cycle

/-- In an order of all devices the flagged ones are as many as there are flags set. -/
theorem countP_flagged {flags : List Bool} {order : List DeviceId}
    (h : order.Perm (.cpu :: (List.range flags.length).map .mem)) :
    order.countP (flagged flags) = flags.countP id := by
  have hflags : (List.range flags.length).map (fun k => flags.getD k false) = flags :=
    List.ext_getElem (by simp) fun k h1 h2 => by simp [List.getD_eq_getElem?_getD, h2]
  calc order.countP (flagged flags)
      = ((List.range flags.length).map .mem).countP (flagged flags) := by
        rw [h.countP_eq, List.countP_cons_of_neg (by simp [flagged])]
    _ = ((List.range flags.length).map fun k => flags.getD k false).countP id := by
        rw [List.countP_map, List.countP_map]; rfl
    _ = flags.countP id := by rw [hflags]

/-- In an allowed order every memory device that drives is one writer more (R70, R430). -/
theorem State.memsCycle_writers {s : State} (h : s.evalOrderOk = true) (addr : Word) (rd : Bool) (l : DataLine) :
    (memsCycle s.buses addr rd s.cfg.evalOrder s.mems l).2.writers =
      l.writers + (s.mems.filter (MemDevice.drives s.buses rd)).length := by
  have hperm := Config.evalOrderOk_perm h
  rw [List.length_map] at hperm
  rw [Machine.memsCycle_writers, countP_flagged (by rwa [List.length_map]), List.countP_map, List.countP_eq_length_filter]
  rfl

/-- The CPU is a writer in a write cycle (R154). -/
theorem DataLine.writers_start (rd : Bool) (v : Byte) : (DataLine.start rd v).writers = (!rd).toNat := by
  cases rd <;> rfl

/-- A bus cycle changes no device without a read/write line (R83). -/
theorem memsCycle_roms (bs : Buses) (addr : Word) (rd : Bool) (order : List DeviceId) (ms : List MemDevice) (l : DataLine) :
    (memsCycle bs addr rd order ms l).1.filter (fun d => d.rwBus.isNone) = ms.filter (fun d => d.rwBus.isNone) := by
  have hrom : ∀ (d : MemDevice) (l : DataLine),
      Option.guard (fun d => d.rwBus.isNone) (d.cycle bs addr rd l).1 = Option.guard (fun d => d.rwBus.isNone) d := by
    intro d l
    obtain h | ⟨hline, h⟩ := d.cycle_cases l <;> rw [h]
    have hnone : d.rwBus.isNone = false := by rw [Option.isNone_eq_false_iff, hline]
    simp only [Option.guard, MemDevice.writeAt, hnone, Bool.false_eq_true, if_false]
  have hfilter : ∀ ms : List MemDevice, ms.filter (fun d => d.rwBus.isNone) =
      (ms.map (Option.guard fun d => d.rwBus.isNone)).filterMap id := fun ms => by
    rw [List.filterMap_map, ← List.filterMap_eq_filter]; rfl
  rw [hfilter, hfilter ms, memsCycle_map hrom]

/-- A bus cycle in which no device is enabled leaves the data line. -/
theorem memsCycle_line_of_disabled {bs : Buses} {ms : List MemDevice} (h : ∀ d ∈ ms, d.enabled bs = false) (addr : Word)
    (order : List DeviceId) (l : DataLine) : (memsCycle bs addr true order ms l).2 = l := by
  induction order generalizing l with
  | nil => rfl
  | cons id order ih =>
    have hid : (memCycle bs addr true id ms l).2 = l := by
      cases id with
      | cpu => rfl
      | mem k =>
        simp only [memCycle]
        split
        · rfl
        · next d hd => simp [MemDevice.cycle, h d (List.mem_of_getElem? hd)]
    rw [memsCycle, memCycle_read_mems, hid, ih]

end Sys2Proof.Machine
end

section
/-! ### The data bus after a store's write cycle (R172, R430) -/

namespace Sys2Proof.Machine

theorem State.sameWiring_lineTicks (n : Nat) (s : State) : s.buses.SameWiring (State.lineTicks n s).buses := by
  induction n generalizing s with
  | zero => exact .refl _
  | succ n ih => exact s.startTick_sameWiring.trans (ih s.startTick.latchLines)

theorem Buses.sameWiring_holdOutputs (p : Ports) (c : Cpu) (l : DataLine) (bs : Buses) :
    bs.SameWiring (bs.holdOutputs p c l) :=
  (Buses.sameLines_onOutputs (p := p) (fa := Bus.held c.oaddr.toNat) (fr := Bus.held c.orw.toNat)
    (fs := Bus.held c.osync.toNat) (fd := Bus.heldLine l) (fun _ => ⟨rfl, rfl, rfl⟩) (fun _ => ⟨rfl, rfl, rfl⟩)
    (fun _ => ⟨rfl, rfl, rfl⟩) (fun _ => ⟨rfl, rfl, rfl⟩) bs).sameWiring

theorem State.sameWiring_clockCycle (s : State) : s.buses.SameWiring s.clockCycle.buses :=
  (State.sameWiring_lineTicks _ s).trans (Buses.sameWiring_holdOutputs _ _ _ _)

theorem exec_sameWiring {i : Instr} {s t : State} (h : exec i s = .next t) : s.buses.SameWiring t.buses :=
  runFrom_keeps (P := fun u => s.buses.SameWiring u.buses) (fun _ _ hu => hu)
    (fun u hu => hu.trans u.sameWiring_clockCycle) (.refl _) ((exec_eq_run i s).symm.trans h)

/-- After a clock cycle `DATA` counts the writers of its bus cycle. -/
theorem State.clockCycle_data_count {s : State} (h : s.buses.has s.cfg.ports.data = true) :
    (s.clockCycle.buses.get s.cfg.ports.data).count =
      (memsCycle s.buses s.cpu.paddr s.cpu.prw s.cfg.evalOrder s.mems (.start s.cpu.prw s.cpu.pdata)).2.writers := by
  have hk := State.lineTicks_kept (2 * s.cfg.clkDiv) s
  have hp : (State.lineTicks (2 * s.cfg.clkDiv) s).cpu.paddr = s.cpu.paddr := by rw [hk.cpu]
  have hd : (State.lineTicks (2 * s.cfg.clkDiv) s).cpu.pdata = s.cpu.pdata := by rw [hk.cpu]
  have hr : (State.lineTicks (2 * s.cfg.clkDiv) s).cpu.prw = s.cpu.prw := by rw [hk.cpu]
  have hhas : (State.lineTicks (2 * s.cfg.clkDiv) s).buses.has s.cfg.ports.data = true :=
    ((State.sameWiring_lineTicks _ s).has _).trans h
  simp only [State.clockCycle, Cpu.publish, hp, hd, hr, hk.mems, hk.cfg, memsCycle_congr hk.kinds, Buses.holdOutputs]
  rw [Buses.get_modify_self (by simpa using hhas)]
  rfl

/-- A class W instruction ends with its write cycle, in the memory that it found. -/
theorem run_write_lastCycle {o : Operand} {m : AddrMode} {r : Cpu → Byte} {s t : State} (hm : o.mode = some m)
    (h : run (seqWrite m r) o.bytes s = .next t) :
    ∃ w c, t = State.withCpu c w.clockCycle ∧ s.SameMemory w ∧ w.cpu.prw = false := by
  obtain ⟨u, ea, micro, c, -, hrun, hmicro, -, -, -, hsame, -, -⟩ :=
    runFrom_formation o m hm (fun ea c => c.store ea (r c)) [microRetire] s
  let w := u.withCpu { c.store ea (r c) with cyc := o.cycles - 2 + 1 }
  have hend : runFrom (o.cycles - 2) [micro, microRetire] [] u =
      .next (w.clockCycle.withCpu { w.clockCycle.cpu.retire with cyc := 0 }) := by
    simp only [runFrom, hmicro]
    rfl
  rw [run, seqWrite, List.cons_append, hrun, hend] at h
  exact ⟨w, _, (Host.Outcome.next.inj h).symm, hsame.trans (State.sameMemory_withCpu _ u), rfl⟩

/-- Every form of STA, STX and STY is of class W. -/
theorem exec_storeForm {b1 b2 : Byte} {f : Form} (hf : f ∈ formsSta b1 b2 ++ formsStx b1 b2 ++ formsSty b1 b2) (s : State) :
    ∃ m r, f.operand.mode = some m ∧ exec f.instr s = run (seqWrite m r) f.operand.bytes s := by
  simp only [formsSta, formsStx, formsSty, List.cons_append, List.nil_append, List.mem_cons, List.not_mem_nil,
    or_false] at hf
  obtain rfl | rfl | rfl | rfl | rfl | rfl | rfl | rfl | rfl | rfl | rfl | rfl | rfl := hf <;>
    exact ⟨_, _, rfl, rfl⟩

/-- After a store every enabled device without a read/write line has been a writer of `DATA` besides the CPU, and none of
them has changed (R83, R430). -/
theorem exec_storeForm_roms {s t : State} {b1 b2 : Byte} {f : Form} (horder : s.evalOrderOk = true)
    (hdata : s.buses.has s.cfg.ports.data = true) (hf : f ∈ formsSta b1 b2 ++ formsStx b1 b2 ++ formsSty b1 b2)
    (hexec : exec f.instr s = .next t) :
    (t.buses.get s.cfg.ports.data).count = 1 + (s.mems.filter (MemDevice.drives s.buses false)).length ∧
      t.mems.filter (fun d => d.rwBus.isNone) = s.mems.filter (fun d => d.rwBus.isNone) := by
  have hwiring := exec_sameWiring hexec
  obtain ⟨m, r, hm, hrun⟩ := exec_storeForm hf s
  obtain ⟨w, c, rfl, hsame, hwrite⟩ := run_write_lastCycle hm (hrun.symm.trans hexec)
  have hhas : w.buses.has w.cfg.ports.data = true := by
    rw [hsame.cfg, ← w.sameWiring_clockCycle.has]
    exact (hwiring.has _).trans hdata
  constructor
  · rw [State.withCpu_buses, ← hsame.cfg, State.clockCycle_data_count hhas, hsame.cfg, hsame.mems,
      memsCycle_congr hsame.kinds, State.memsCycle_writers horder, hwrite, DataLine.writers_start]
    rfl
  · rw [State.withCpu_mems, w.clockCycle_mems_write hwrite, ← hsame.mems]
    exact memsCycle_roms ..

theorem State.mem_conflicts {s : State} {id : BusId} :
    id ∈ s.conflicts ↔ s.buses.has id = true ∧ (s.buses.get id).hasConflict = true := by
  rw [State.conflicts, Buses.conflicts, List.mem_filter, Buses.mem_ids]

end Sys2Proof.Machine

open Sys2Proof Sys2Proof.Machine

/-- Settles O49: the three cases of `evaluate()`; the writers of a store (`exec_storeForm_roms`), which with one device
without a read/write line are two on a standard bus; and an open line keeps its 0x00. -/
theorem romStoresConflictOpenReadsAreZero : Obligations.RomStoresConflictOpenReadsAreZero := by
  refine ⟨fun d bs => ⟨d.evaluate_keeps bs, fun hrom => ⟨MemDevice.evaluate_rom hrom, fun he => ?_⟩⟩,
    fun s t b1 b2 horder hports f hf hexec => ?_, fun s a h => ?_⟩
  · exact congrArg Prod.snd (MemDevice.evaluate_drive he (MemDevice.not_writes_of_rom hrom))
  · intro roms
    have ho := State.outputsOk_of_portsOk hports
    have hot := ho.of_sameWiring (exec_sameWiring hexec)
    obtain ⟨hcount, hroms⟩ := exec_storeForm_roms horder (ho.has _ (data_mem_outputs _)) hf hexec
    refine ⟨hcount, fun hne => State.mem_conflicts.mpr ⟨hot.has _ (data_mem_outputs _), ?_⟩, hroms⟩
    have hpos : 0 < (s.mems.filter (MemDevice.drives s.buses false)).length := List.length_pos_iff.mpr hne
    rw [Bus.hasConflict_standard (hot.standard _ (data_mem_outputs _)), hcount]
    exact decide_eq_true (by omega)
  · exact congrArg DataLine.byte (memsCycle_line_of_disabled h a _ _)
end

section
/-! ### The writers of the output ports' buses in a tick (R92, R154, R430) -/

namespace Sys2Proof.Machine

/-- T1 to T3 with an input that spares the output ports leave their buses reset (R64). -/
theorem State.startTick_get_output {s : State} (ho : s.buses.OutputsOk s.cfg.ports)
    (hi : (s.inputs.headD (idleInput s.cfg.ports)).sparesOutputs s.cfg.ports = true) {id : BusId}
    (hid : id ∈ s.cfg.ports.outputs) : s.startTick.buses.get id = (s.buses.get id).reset := by
  obtain ⟨hhold, hw⟩ := TickInput.sparesOutputs_iff.mp hi
  have hreset : s.buses.reset.get id = (s.buses.get id).reset := Buses.get_map _ (ho.has id hid)
  have hadvance : (s.buses.reset.advance false).get id = (s.buses.get id).reset.advance := by
    rw [← hreset]
    exact Buses.get_map _ ((Buses.has_map ..).trans (ho.has id hid))
  have hkind : (s.buses.get id).reset.kind = .standard := (Bus.reset_kind _).trans (ho.standard id hid)
  simp only [State.startTick, hhold]
  rw [Buses.get_drive_of_not_mem fun w hmem heq => hw w hmem (heq ▸ hid), hadvance]
  simp only [Bus.advance, hkind]

/-- A tick whose input spares the output ports ends with the bus cycle of the output registers, whatever CPU its edge, if
any, has left. -/
theorem State.tick_eq_driven {s t : State} (hp : s.platformOk = true)
    (hi : (s.inputs.headD (idleInput s.cfg.ports)).sparesOutputs s.cfg.ports = true) (htick : s.tick = .next t) :
    ∃ c, t = (s.startTick.latchLines.withCpu c).driven := by
  obtain ⟨order, horder, hperm⟩ := State.platformOk_order hp
  have hcpu : DeviceId.cpu ∉ order := fun hmem => by simpa using hperm.subset hmem
  rw [State.tick, horder] at htick
  obtain ⟨u, heval, hmems⟩ := andThen_eq_next htick
  obtain ⟨c, rfl⟩ := State.evaluateCpu_eq_next heval
  have ho := State.outputsOk_of_portsOk (State.platformOk_iff.mp hp).2.2.1
  have hdata : s.startTick.buses.get s.cfg.ports.data = (s.buses.get s.cfg.ports.data).reset :=
    State.startTick_get_output ho hi (data_mem_outputs _)
  rw [Bus.reset_standard (ho.standard _ (data_mem_outputs _))] at hdata
  have hv : (s.startTick.latchLines.withCpu c).platformOk = true :=
    (State.platformOk_congr (s := s) (t := s.startTick.latchLines.withCpu c) rfl s.startTick_sameWiring rfl).trans hp
  have hend := State.evaluateAll_driveOutputs hv horder hcpu (congrArg Bus.value hdata) (congrArg Bus.count hdata)
  exact ⟨c, Host.Outcome.next.inj (hmems.symm.trans hend)⟩

/-- In such a tick the CPU writes each of `ADDR`, `RW` and `SYNC` once; `DATA` is written by the CPU in a write, and by each
memory device that drives (R154, R430). -/
theorem State.tick_output_counts {s t : State} (hp : s.platformOk = true)
    (hi : (s.inputs.headD (idleInput s.cfg.ports)).sparesOutputs s.cfg.ports = true) (htick : s.tick = .next t) :
    (t.buses.get s.cfg.ports.addr).count = 1 ∧ (t.buses.get s.cfg.ports.rw).count = 1 ∧
      (t.buses.get s.cfg.ports.sync).count = 1 ∧
      (t.buses.get s.cfg.ports.data).count =
        (!t.cpu.orw).toNat + (s.mems.filter (MemDevice.drives s.buses t.cpu.orw)).length := by
  obtain ⟨c, rfl⟩ := State.tick_eq_driven hp hi htick
  obtain ⟨-, horder, hports, -⟩ := State.platformOk_iff.mp hp
  have ho := State.outputsOk_of_portsOk hports
  obtain ⟨ha, hr, hs, hd⟩ := (ho.of_sameWiring s.startTick_sameWiring).get_onOutputs (Bus.write c.oaddr.toNat)
    (Bus.write c.orw.toNat) (Bus.write c.osync.toNat) (Bus.carry (s.startTick.latchLines.withCpu c).transacted.2)
  have hwritten : ∀ (v : Nat), ∀ id ∈ s.cfg.ports.outputs, ((s.startTick.buses.get id).write v).count = 1 :=
    fun v id hid => by
      have hstd := ho.standard id hid
      rw [State.startTick_get_output ho hi hid, Bus.count_write_standard ((Bus.reset_kind _).trans hstd),
        Bus.count_reset_standard hstd]
  have hwriters : (s.startTick.latchLines.withCpu c).transacted.2.writers =
      (!c.orw).toNat + (s.mems.filter (MemDevice.drives s.buses c.orw)).length := by
    rw [← DataLine.writers_start c.orw c.odata, ← State.memsCycle_writers horder c.oaddr,
      ← memsCycle_congr s.startTick_sameKinds]
    rfl
  exact ⟨(congrArg Bus.count ha).trans (hwritten _ _ (addr_mem_outputs _)),
    (congrArg Bus.count hr).trans (hwritten _ _ (rw_mem_outputs _)),
    (congrArg Bus.count hs).trans (hwritten _ _ (sync_mem_outputs _)), (congrArg Bus.count hd).trans hwriters⟩

/-- One enabled RAM and the CPU are one writer of `DATA`: the CPU in a write, the RAM in a read. -/
theorem State.plainRam_drivers {s : State} (h : s.plainRam = true) (rd : Bool) :
    (!rd).toNat + (s.mems.filter (MemDevice.drives s.buses rd)).length = 1 := by
  obtain ⟨d, hmems, -, -, -, hrw, hen, -⟩ := State.plainRam_mems h
  have hnone : d.rwBus.isNone = false := by rw [Option.isNone_eq_false_iff, hrw]
  cases rd <;> simp [hmems, MemDevice.drives, hen, hnone]

end Sys2Proof.Machine

open Sys2Proof Sys2Proof.Machine

/-- Settles O52: the writers of each output port's bus in a tick (`State.tick_output_counts`) are one on the reference
platform (`State.plainRam_drivers`), and one writer of a standard bus is no conflict. -/
theorem referencePlatformHasNoConflict : Obligations.ReferencePlatformHasNoConflict := by
  intro s t hp href hi htick id hid
  have hram : s.plainRam = true := by
    rw [State.referenceRam, Bool.and_eq_true] at href
    exact href.1
  obtain ⟨haddr, hrw, hsync, hdata⟩ := State.tick_output_counts hp hi htick
  rw [State.plainRam_drivers hram] at hdata
  have hcount : (t.buses.get id).count = 1 := by
    simp only [Ports.outputs, List.mem_cons, List.not_mem_nil, or_false] at hid
    obtain rfl | rfl | rfl | rfl := hid
    · exact haddr
    · exact hdata
    · exact hrw
    · exact hsync
  have ho := State.outputsOk_of_portsOk (State.platformOk_iff.mp hp).2.2.1
  have hstd := (ho.of_sameWiring (State.sameAssembly_tick htick).wiring).standard id hid
  refine ⟨hcount, fun hmem => ?_⟩
  have hconflict := (State.mem_conflicts.mp hmem).2
  rw [Bus.hasConflict_standard hstd, hcount] at hconflict
  exact absurd hconflict (by decide)
end

section
/-! ### Decoding and encoding (R120 to R123, R126) -/

namespace Sys2Proof

/-- The syntactic facts of `Laws.Layout` hold of every instruction. -/
theorem layout (i : Instr) : Laws.Layout.Statement i := by
  cases i <;> exact ⟨rfl, Nat.le_of_ble_eq_true rfl, rfl⟩

/-- An opcode byte has a row and a column in the map of R123. -/
theorem exists_nibbles (op : Byte) : ∃ hi lo : Fin 16, op = BitVec.ofNat 8 (16 * hi + lo) :=
  ⟨⟨op.toNat / 16, by omega⟩, ⟨op.toNat % 16, by omega⟩, BitVec.eq_of_toNat_eq (by simp; omega)⟩

/-- What an opcode byte decodes to is encoded as that byte and as many of the operand bytes as the opcode takes: by the row
and the column of the map of R123. -/
theorem encode_decodeOpcode (op b1 b2 : Byte) :
    encode (decodeOpcode op b1 b2) = op :: [b1, b2].take (opcodeLength op - 1) := by
  obtain ⟨hi, lo, rfl⟩ := exists_nibbles op
  fin_cases hi <;> fin_cases lo <;> rfl

/-- An instruction that bytes can hold has an opcode, which takes just the operand bytes of its encoding and selects it
whatever bytes follow them. -/
theorem encode_eq_cons {i : Instr} (h : i.wellFormed = true) :
    ∃ op ops, encode i = op :: ops ∧ opcodeLength op = ops.length + 1 ∧
      ∀ rest, decodeOpcode op ((ops ++ rest).getD 0 0) ((ops ++ rest).getD 1 0) = i := by
  cases i with
  | reset | nmi | irq => cases h
  | _ => exact ⟨_, _, rfl, rfl, fun _ => rfl⟩

theorem opcodeLength_pos (op : Byte) : 0 < opcodeLength op := by
  obtain ⟨hlength, -⟩ := layout (decodeOpcode op 0 0)
  rw [opcodeLength, ← hlength, encode_decodeOpcode]
  exact Nat.succ_pos _

theorem opcodeLength_le_three (op : Byte) : opcodeLength op ≤ 3 := by
  obtain ⟨-, hle, -⟩ := layout (decodeOpcode op 0 0)
  exact hle

/-- No opcode selects a pseudo-instruction (R126). -/
theorem wellFormed_decodeOpcode (op b1 b2 : Byte) : (decodeOpcode op b1 b2).wellFormed = true := by
  obtain ⟨hlength, -, hwf⟩ := layout (decodeOpcode op b1 b2)
  rw [hwf, ← hlength, encode_decodeOpcode]
  exact decide_eq_true (Nat.succ_pos _)

/-! #### `decode`, case by case -/

theorem decode_cons_of_le {op : Byte} {ops : List Byte} (h : opcodeLength op ≤ ops.length + 1) :
    decode (op :: ops) =
      .ok (decodeOpcode op (ops.getD 0 0) (ops.getD 1 0), ops.drop (opcodeLength op - 1)) :=
  if_neg (Nat.not_lt.mpr h)

theorem decode_cons_of_lt {op : Byte} {ops : List Byte} (h : ops.length + 1 < opcodeLength op) :
    decode (op :: ops) = .error (.missingOperand op) :=
  if_pos h

/-- What bytes that decode look like: an opcode with the operand bytes it takes. -/
theorem eq_cons_of_decode {bytes rest : List Byte} {i : Instr} (h : decode bytes = .ok (i, rest)) :
    ∃ op ops, bytes = op :: ops ∧ opcodeLength op ≤ ops.length + 1 ∧
      i = decodeOpcode op (ops.getD 0 0) (ops.getD 1 0) ∧ rest = ops.drop (opcodeLength op - 1) := by
  cases bytes with
  | nil => cases h
  | cons op ops =>
    by_cases hlength : opcodeLength op ≤ ops.length + 1
    · rw [decode_cons_of_le hlength] at h
      cases h
      exact ⟨op, ops, rfl, hlength, rfl, rfl⟩
    · rw [decode_cons_of_lt (Nat.lt_of_not_le hlength)] at h
      cases h

/-- A byte string is refused when there is no opcode, or not all the operand bytes it takes. -/
theorem decode_eq_error_iff (bytes : List Byte) :
    (∃ e, decode bytes = .error e) ↔ bytes.length < 1 ∨ bytes.length < opcodeLength (bytes.headD 0) := by
  cases bytes with
  | nil => exact ⟨fun _ => .inl Nat.one_pos, fun _ => ⟨_, rfl⟩⟩
  | cons op ops =>
    have hone : ¬ (op :: ops).length < 1 := by simp
    rw [or_iff_right hone]
    constructor
    · rintro ⟨e, he⟩
      by_contra hlength
      have hle : opcodeLength op ≤ ops.length + 1 := Nat.le_of_not_lt hlength
      rw [decode_cons_of_le hle] at he
      cases he
    · exact fun hlength => ⟨_, decode_cons_of_lt hlength⟩

/-! #### The two directions -/

theorem decode_encode {i : Instr} (h : i.wellFormed = true) (rest : List Byte) :
    decode (encode i ++ rest) = .ok (i, rest) := by
  obtain ⟨op, ops, hencode, hlength, hdecode⟩ := encode_eq_cons h
  rw [hencode, List.cons_append, decode_cons_of_le (by simp [hlength]), hdecode, hlength, Nat.add_sub_cancel,
    List.drop_left]

/-- The operand bytes that `decode` hands to `decodeOpcode` are those that stand in the byte string. -/
theorem take_operands {n : Nat} {ops : List Byte} (hn : n ≤ 2) (hlength : n ≤ ops.length) :
    [ops.getD 0 0, ops.getD 1 0].take n = ops.take n := by
  match n, ops with
  | 0, _ => rfl
  | 1, _ :: _ => rfl
  | 2, _ :: _ :: _ => rfl

theorem eq_encode_of_decode {bytes rest : List Byte} {i : Instr} (h : decode bytes = .ok (i, rest)) :
    bytes = encode i ++ rest := by
  obtain ⟨op, ops, rfl, hlength, rfl, rfl⟩ := eq_cons_of_decode h
  have hle := opcodeLength_le_three op
  rw [encode_decodeOpcode, take_operands (by omega) (by omega), List.cons_append, List.take_append_drop]

theorem wellFormed_of_decode {bytes rest : List Byte} {i : Instr} (h : decode bytes = .ok (i, rest)) :
    i.wellFormed = true := by
  obtain ⟨op, ops, -, -, rfl, -⟩ := eq_cons_of_decode h
  exact wellFormed_decodeOpcode _ _ _

end Sys2Proof

open Sys2Proof

/-- Settles O59: `decode_encode` by the constructors of `Instr`, the converse by the map of R123 (`encode_decodeOpcode`), and
refusal by `decode_eq_error_iff`. -/
theorem decodeEncodeAgree : Obligations.DecodeEncodeAgree :=
  ⟨fun _ rest hwf => decode_encode hwf rest,
    fun _ _ i h => ⟨wellFormed_of_decode h, eq_encode_of_decode h, (layout i).1⟩,
    decode_eq_error_iff⟩

/-- Settles O60: each word is looked up in the map of R123. -/
theorem decodeOfWrittenWords : Obligations.DecodeOfWrittenWords :=
  ⟨rfl, rfl, rfl, rfl, rfl, rfl, rfl, rfl, rfl, rfl⟩
end

section
/-! ### The instruction that cycle 0 selects (R44, R157, R364) -/

namespace Sys2Proof.Machine

/-- With the table of R123 as it stands, a selector that is an opcode selects that opcode's instruction. -/
theorem decodeSelector_setWidth {cfg : Config} (h : cfg.optable = []) (op b1 b2 : Byte) :
    decodeSelector cfg (op.setWidth 9) b1 b2 = some (decodeOpcode op b1 b2) := by
  have hlt : (op.setWidth 9).toNat < 256 := by simp; omega
  have hreset : op.setWidth 9 ≠ Config.selReset := fun e => absurd (e ▸ hlt) (by decide)
  have hnmi : op.setWidth 9 ≠ Config.selNmi := fun e => absurd (e ▸ hlt) (by decide)
  have hirq : op.setWidth 9 ≠ Config.selIrq := fun e => absurd (e ▸ hlt) (by decide)
  have hrow : cfg.rowOf ((op.setWidth 9).setWidth 8) = op := by
    rw [Config.rowOf, h]
    simp
  rw [decodeSelector, if_neg hreset, if_neg hnmi, if_neg hirq, if_pos hlt, hrow]

/-- With nothing pending the arbiter selects the byte just fetched (R364). -/
theorem Cpu.select_of_no_request {c : Cpu} (hres : c.resPend = false) (hnmi : c.nmiPend = false)
    (hirq : c.irqPend = false) : c.select = c.dbuf.setWidth 9 := by
  simp only [Cpu.select, hres, hnmi, hirq, Bool.false_eq_true, if_false]

theorem State.instructionLevel_atBoundary {s : State} (h : s.instructionLevel = true) : s.atBoundary = true := by
  rw [State.instructionLevel, Bool.and_eq_true] at h
  exact h.1

theorem State.sameMemory_cycleZero {s : State} (h : s.atBoundary = true) : s.SameMemory s.cycleZero := by
  rw [State.atBoundary, Bool.and_eq_true] at h
  exact (s.sameMemory_clockCycle_read h.1).trans (State.sameMemory_withCpu _ _)

theorem State.cycleZero_cyc {s : State} (h : s.atBoundary = true) : s.cycleZero.cpu.cyc = 0 := by
  simp only [State.atBoundary, Bool.and_eq_true, decide_eq_true_eq] at h
  obtain ⟨-, -, hcyc, -⟩ := h
  exact s.clockCycle_cyc.trans hcyc

theorem State.cycleZero_regs (s : State) : s.cycleZero.regs = s.regs := by
  simp [State.cycleZero, State.regs]

theorem step_of_selected {s : State} {i : Instr} (hlevel : s.instructionLevel = true)
    (hsel : s.cycleZero.selected = some i) : step s = exec i s.cycleZero := by
  rw [step, if_pos hlevel, hsel]

end Sys2Proof.Machine

open Sys2Proof Sys2Proof.Machine

/-- Settles O5: with nothing pending cycle 0 puts the byte at `PC` into `IR`, where it selects what `decode` reads from memory
(`decodeSelector_setWidth`), and memory and registers stay as they are through it. -/
theorem stepRunsTheDecodedInstruction : Obligations.StepRunsTheDecodedInstruction := by
  intro s i rest hlevel htable hres hnmi hirq hdecode
  have hboundary := State.instructionLevel_atBoundary hlevel
  have hmem := State.sameMemory_cycleZero hboundary
  have hir : s.cycleZero.cpu.ir = (s.peek s.cpu.pc).setWidth 9 := by
    rw [← State.cycleZero_dbuf hboundary]
    exact Cpu.select_of_no_request hres hnmi hirq
  have hpc : s.cycleZero.cpu.pc = s.cpu.pc := s.clockCycle_pc
  have hsel : s.cycleZero.selected = some i := by
    obtain ⟨op, ops, hbytes, -, rfl, -⟩ := eq_cons_of_decode hdecode
    cases hbytes
    rw [State.selected, hir, hpc, hmem.peek, hmem.peek, decodeSelector_setWidth (hmem.cfg.symm ▸ htable)]
    rfl
  exact ⟨step_of_selected hlevel hsel, s.cycleZero_regs, hir, State.cycleZero_cyc hboundary,
    ⟨hmem.mems, hmem.peek⟩, hmem.cfg, s.clockCycle_inputs⟩
end

section
/-! ### The CPU's `evaluate()`, edge by edge, and the output registers on their buses (R150 to R155) -/

namespace Sys2Proof.Machine

/-! #### What E7 leaves on the buses (R154) -/

/-- E7 is one operation on the bus of each output port, which leaves `DATA` alone in a read cycle. -/
theorem Buses.driveOutputs_eq_onOutputs (p : Ports) (c : Cpu) (bs : Buses) :
    bs.driveOutputs p c = bs.onOutputs p (Bus.write c.oaddr.toNat) (Bus.write c.orw.toNat) (Bus.write c.osync.toNat)
      (if c.orw then id else Bus.write c.odata.toNat) := by
  unfold Buses.driveOutputs
  split
  · exact (Buses.modify_eq_self (f := id) rfl).symm
  · rfl

/-- E7 on distinct output ports writes each of their buses once, and no other bus. -/
theorem drivesOutputs_of_driveOutputs {s t : State} (hports : s.portsOk = true)
    (hbuses : t.buses = s.buses.driveOutputs s.cfg.ports t.cpu) : DrivesOutputs s t := by
  rw [Buses.driveOutputs_eq_onOutputs] at hbuses
  obtain ⟨haddr, hrw, hsync, hdata⟩ := (State.outputsOk_of_portsOk hports).get_onOutputs (Bus.write t.cpu.oaddr.toNat)
    (Bus.write t.cpu.orw.toNat) (Bus.write t.cpu.osync.toNat) (if t.cpu.orw then id else Bus.write t.cpu.odata.toNat)
  rw [← hbuses] at haddr hrw hsync hdata
  refine ⟨haddr, hrw, hsync, ?_, fun id hid => ?_⟩
  · rw [hdata]
    split <;> rfl
  · rw [hbuses]
    exact Buses.get_onOutputs_of_not_mem hid

/-! #### The output registers of a CPU -/

/-- The output registers stand in `c'` as they stand in `c`. -/
structure Cpu.SameOutputs (c c' : Cpu) : Prop where
  oaddr : c'.oaddr = c.oaddr
  odata : c'.odata = c.odata
  orw : c'.orw = c.orw
  osync : c'.osync = c.osync

theorem Cpu.SameOutputs.of_pins {c c' : Cpu} (h : c'.pins = c.pins) : c.SameOutputs c' :=
  ⟨congrArg Pins.oaddr h, congrArg Pins.odata h, congrArg Pins.orw h, congrArg Pins.osync h⟩

theorem Cpu.SameOutputs.trans {c c' c'' : Cpu} (h : c.SameOutputs c') (h' : c'.SameOutputs c'') : c.SameOutputs c'' :=
  ⟨h'.oaddr.trans h.oaddr, h'.odata.trans h.odata, h'.orw.trans h.orw, h'.osync.trans h.osync⟩

/-- E7 sees nothing of the CPU but the output registers. -/
theorem Cpu.SameOutputs.driveOutputs {c c' : Cpu} (h : c.SameOutputs c') (p : Ports) (bs : Buses) :
    bs.driveOutputs p c' = bs.driveOutputs p c := by
  simp only [Buses.driveOutputs, h.oaddr, h.odata, h.orw, h.osync]

/-! #### The three kinds of tick (R151, R152, R153, R155) -/

/-- No micro-step of a proper sequence touches the pins. -/
theorem ProperSequence.keepsPins {us : List Micro} (h : ProperSequence us) : ∀ u ∈ us, ∀ c, (u c).KeepsPins c := by
  induction h with
  | last hpins => exact List.forall_mem_singleton.mpr hpins
  | cons hpins _ ih => exact List.forall_mem_cons.mpr ⟨hpins, ih⟩

/-- Whatever `IR` and `CYC` select, the micro-step touches no pin. -/
theorem microStep_keepsPins (cfg : Config) (c : Cpu) : (microStep cfg c).KeepsPins c := by
  unfold microStep
  split
  case h_1 u hu =>
    have hmem := List.mem_of_getElem? hu
    unfold sequenceAt at hmem
    split at hmem
    · exact (sequenceOf_proper cfg _).keepsPins u hmem c
    · cases hmem
  case h_2 => trivial

/-- A micro-step's end leaves the output registers as they are in `c`. -/
def MicroEnd.KeepsOutputs (c : Cpu) : MicroEnd → Prop
  | .more c' => c.SameOutputs c'
  | .retired c' => c.SameOutputs c'
  | .refuse _ => True

/-- E6 touches no output register: what a rising edge stages is not visible before the next falling edge (R153, R161). -/
theorem Cpu.risingEdge_keepsOutputs (cfg : Config) (sample : Byte) (c : Cpu) :
    (c.risingEdge cfg sample).KeepsOutputs c := by
  obtain ⟨d, hd, heq⟩ : ∃ d, c.SameOutputs d ∧ c.risingEdge cfg sample = (microStep cfg d).count d.cyc := by
    refine ⟨_, ?_, rfl⟩
    split <;> exact ⟨rfl, rfl, rfl, rfl⟩
  have hpins := (microStep_keepsPins cfg d).count d.cyc
  rw [heq]
  generalize (microStep cfg d).count d.cyc = e at hpins
  cases e with
  | more c' => exact hd.trans (.of_pins hpins)
  | retired c' => exact hd.trans (.of_pins hpins)
  | refuse r => trivial

/-- In a tick without an edge the CPU latches the lines and drives its outputs again (R155). -/
theorem State.evaluateCpu_of_no_edge {s : State} (h : s.level s.cfg.ports.clk = s.cpu.lastClk) :
    s.evaluateCpu = .next s.latchLines.driveOutputs := by
  unfold State.evaluateCpu
  dsimp only
  rw [h]
  cases s.cpu.lastClk <;> rfl

/-- On a falling edge the CPU publishes the staged values and drives them (R152). -/
theorem State.evaluateCpu_of_falling {s : State} (hlast : s.cpu.lastClk = true) (h : s.level s.cfg.ports.clk = false) :
    s.evaluateCpu = .next (s.latchLines.withCpu s.latchLines.cpu.publish).driveOutputs := by
  unfold State.evaluateCpu
  dsimp only
  rw [h, hlast]
  rfl

/-- Without a falling edge the CPU's `evaluate()` drives the output registers that stood before it. -/
theorem State.evaluateCpu_sameOutputs {s t : State} (h : s.evaluateCpu = .next t)
    (hedge : ¬ (s.cpu.lastClk = true ∧ s.level s.cfg.ports.clk = false)) : s.cpu.SameOutputs t.cpu := by
  unfold State.evaluateCpu at h
  dsimp only at h
  split at h
  case isTrue hfall => exact absurd (by simpa using hfall) hedge
  split at h
  case isTrue =>
    have hrise := Cpu.risingEdge_keepsOutputs s.latchLines.cfg
      (BitVec.ofNat 8 (s.latchLines.buses.get s.latchLines.cfg.ports.data).last) s.latchLines.cpu
    have hlatch : s.cpu.SameOutputs s.latchLines.cpu := ⟨rfl, rfl, rfl, rfl⟩
    split at h
    case h_1 he => cases h; rw [he] at hrise; exact hlatch.trans hrise
    case h_2 he => cases h; rw [he] at hrise; exact hlatch.trans hrise
    case h_3 => cases h
  case isFalse => cases h; exact ⟨rfl, rfl, rfl, rfl⟩

/-- In every tick the buses carry the output registers as the tick leaves them (R154). -/
theorem State.evaluateCpu_buses {s t : State} (h : s.evaluateCpu = .next t) :
    t.buses = s.buses.driveOutputs s.cfg.ports t.cpu := by
  obtain ⟨c, rfl⟩ := State.evaluateCpu_eq_next h
  rfl

end Sys2Proof.Machine

open Sys2Proof Sys2Proof.Machine

/-- Settles O55: without an edge only the lines are latched and the outputs driven again (`State.evaluateCpu_of_no_edge`). -/
theorem noEdgeTickKeepsRegisters : Obligations.NoEdgeTickKeepsRegisters := by
  intro s hedge
  have houtputs : s.cpu.SameOutputs s.latchLines.cpu := ⟨rfl, rfl, rfl, rfl⟩
  refine ⟨_, State.evaluateCpu_of_no_edge hedge, rfl, rfl, rfl, rfl, houtputs.driveOutputs _ _, fun hports => ?_⟩
  exact drivesOutputs_of_driveOutputs hports rfl

/-- Settles O57: a falling edge publishes (`State.evaluateCpu_of_falling`), every other tick leaves the output registers
(`State.evaluateCpu_sameOutputs`), and E7 drives them as they then are. -/
theorem outputsChangeOnFallingEdges : Obligations.OutputsChangeOnFallingEdges := by
  intro s t heval
  have hbuses := State.evaluateCpu_buses heval
  refine ⟨fun ⟨hlast, hlevel⟩ => ?_, fun hedge => ?_, hbuses, fun hports => drivesOutputs_of_driveOutputs hports hbuses⟩
  · rw [State.evaluateCpu_of_falling hlast hlevel] at heval
    cases heval
    exact ⟨rfl, rfl, rfl, rfl⟩
  · obtain ⟨haddr, hdata, hrw, hsync⟩ := State.evaluateCpu_sameOutputs heval hedge
    exact ⟨haddr, hdata, hrw, hsync⟩
end

section
/-! ### What a micro-step does to the latches, and that it stages no opcode fetch but to retire (R156, R159, R372) -/

namespace Sys2Proof.Machine

/-- The latches and trackers of a CPU. -/
def Cpu.latches (c : Cpu) : Latches :=
  { nmiPend := c.nmiPend, irqPend := c.irqPend, resPend := c.resPend, lastClk := c.lastClk, lastNmi := c.lastNmi }

/-- From `c` to `c'` the latches and trackers stand still, but for the latch that NMI or RESET clears. -/
structure Cpu.KeepsLatches (i : Instr) (c c' : Cpu) : Prop where
  nmiPend : i ≠ .nmi → c'.nmiPend = c.nmiPend
  irqPend : c'.irqPend = c.irqPend
  resPend : i ≠ .reset → c'.resPend = c.resPend
  lastClk : c'.lastClk = c.lastClk
  lastNmi : c'.lastNmi = c.lastNmi

/-- A micro-step's end keeps the latches; if the instruction goes on, its next bus cycle is no opcode fetch. -/
def MicroEnd.Stages (i : Instr) (c : Cpu) : MicroEnd → Prop
  | .more c' => c'.psync = false ∧ c.KeepsLatches i c'
  | .retired c' => c.KeepsLatches i c'
  | .refuse _ => True

/-- A sequence of such micro-steps. -/
def SequenceStages (i : Instr) (us : List Micro) : Prop :=
  ∀ u ∈ us, ∀ c, (u c).Stages i c

section Stages
variable {i : Instr} {c c' c'' : Cpu}

theorem Cpu.KeepsLatches.of_latches (h : c'.latches = c.latches) : c.KeepsLatches i c' := by
  simp only [Cpu.latches, Latches.mk.injEq] at h
  obtain ⟨hnmi, hirq, hres, hclk, hlast⟩ := h
  exact ⟨fun _ => hnmi, hirq, fun _ => hres, hclk, hlast⟩

namespace SequenceStages
variable {us us' : List Micro} {u : Micro} {m : AddrMode} {cfg : Config}

theorem nil : SequenceStages i [] := by simp [SequenceStages]

theorem cons (h : ∀ c, (u c).Stages i c) (hus : SequenceStages i us) : SequenceStages i (u :: us) :=
  List.forall_mem_cons.mpr ⟨h, hus⟩

theorem append (h : SequenceStages i us) (h' : SequenceStages i us') : SequenceStages i (us ++ us') :=
  List.forall_mem_append.mpr ⟨h, h'⟩

/-- A micro-step that goes on and touches no latch. -/
theorem staged {g : Cpu → Cpu} (hs : ∀ c, (g c).psync = false) (hl : ∀ c, (g c).latches = c.latches)
    (hus : SequenceStages i us) : SequenceStages i ((fun c => .more (g c)) :: us) :=
  cons (fun c => ⟨hs c, .of_latches (hl c)⟩) hus

/-- A last micro-step that touches no latch. -/
theorem retires {g : Cpu → Cpu} (hl : ∀ c, (g c).latches = c.latches) :
    SequenceStages i [fun c => .retired (g c).retire] :=
  cons (fun c => .of_latches (hl c)) nil

/-- Micro-step 0 of every opcode (R158). -/
theorem opcode (hus : SequenceStages i us) : SequenceStages i (microZero :: us) :=
  staged (fun _ => rfl) (fun _ => rfl) hus

theorem formation {stage : Word → Cpu → Cpu} (hs : ∀ w c, (stage w c).psync = false)
    (hl : ∀ w c, (stage w c).latches = c.latches) : SequenceStages i (formation m stage) := by
  cases m with
  | zp => exact staged (fun _ => hs _ _) (fun c => hl _ c.incPc) nil
  | zpx | zpy => exact staged (fun _ => rfl) (fun _ => rfl) (staged (fun _ => hs _ _) (fun c => hl _ c) nil)
  | abs | abx | aby => exact staged (fun _ => rfl) (fun _ => rfl) (staged (fun _ => hs _ _) (fun c => hl _ c.incPc) nil)
  | inx =>
    exact staged (fun _ => rfl) (fun _ => rfl) (staged (fun _ => rfl) (fun _ => rfl) (staged (fun _ => rfl) (fun _ => rfl)
      (staged (fun _ => hs _ _) (fun c => hl _ c) nil)))
  | iny =>
    exact staged (fun _ => rfl) (fun _ => rfl) (staged (fun _ => rfl) (fun _ => rfl)
      (staged (fun _ => hs _ _) (fun c => hl _ c) nil))

/-- The operation of class R, on a CPU with the same latches. -/
theorem readEnd {op : ReadOp} (hop : ∀ v c c', op v c = .ok c' → c'.latches = c.latches) {g : Cpu → Cpu}
    (hg : ∀ c, (g c).latches = c.latches) : SequenceStages i [fun c => readEnd op (g c)] := by
  refine cons (fun c => ?_) nil
  unfold Machine.readEnd
  cases h : op (g c).dbuf (g c) with
  | ok c' => exact .of_latches ((hop _ _ _ h).trans (hg c))
  | error r => trivial

theorem read {op : ReadOp} (hop : ∀ v c c', op v c = .ok c' → c'.latches = c.latches) :
    SequenceStages i (seqRead m op) :=
  append (opcode (formation (fun _ _ => rfl) fun _ _ => rfl)) (readEnd hop (g := id) fun _ => rfl)

theorem readImm {op : ReadOp} (hop : ∀ v c c', op v c = .ok c' → c'.latches = c.latches) :
    SequenceStages i (seqReadImm op) :=
  opcode (readEnd hop (g := Cpu.incPc) fun _ => rfl)

theorem write {r : Cpu → Byte} : SequenceStages i (seqWrite m r) :=
  append (opcode (formation (fun _ _ => rfl) fun _ _ => rfl)) (retires (g := id) fun _ => rfl)

theorem modify {f : ModifyOp} (hf : ∀ v c, (f v c).2.latches = c.latches) : SequenceStages i (seqModify m f) :=
  append (opcode (formation (fun _ _ => rfl) fun _ _ => rfl))
    (staged (fun _ => rfl) (fun _ => rfl) (staged (fun _ => rfl) (fun c => hf c.tmp c) (retires (g := id) fun _ => rfl)))

theorem implied {act : Cpu → Cpu} (hact : ∀ c, (act c).latches = c.latches) : SequenceStages i (seqImplied act) :=
  opcode (retires hact)

theorem accumulator {f : ModifyOp} (hf : ∀ v c, (f v c).2.latches = c.latches) : SequenceStages i (seqAccumulator f) :=
  opcode (retires fun c => hf c.a c)

theorem branch {cond : Cpu → Bool} : SequenceStages i (seqBranch cond) := by
  refine opcode (cons (fun c => ?_) (retires (g := fun c => { c with pc := c.pc + sext16 c.tmp }) fun _ => rfl))
  cases cond c
  · exact .of_latches rfl
  · exact ⟨rfl, .of_latches rfl⟩

theorem push {v : Cpu → Byte} : SequenceStages i (seqPush cfg v) :=
  opcode (staged (fun _ => rfl) (fun _ => rfl) (retires (g := id) fun _ => rfl))

theorem pull {take : Byte → Cpu → Cpu} (htake : ∀ v c, (take v c).latches = c.latches) :
    SequenceStages i (seqPull cfg take) :=
  opcode (staged (fun _ => rfl) (fun _ => rfl) (staged (fun _ => rfl) (fun _ => rfl) (retires fun c => htake c.dbuf c)))

/-- The exception entry without its first push: only an NMI's completion clears a latch (R340, R366, R367). -/
theorem entryTail {e : Entry} (he : e.completesNmi = true → i = .nmi) :
    SequenceStages i (entrySequence cfg e).tail := by
  have hstatus : ∀ c, (e.pushStatus cfg c).latches = c.latches := fun c => by
    unfold Entry.pushStatus
    split <;> rfl
  have hmask : ∀ c, (e.mask c).latches = c.latches := fun c => by unfold Entry.mask; split <;> rfl
  have hcomplete : ∀ c : Cpu, c.KeepsLatches i (e.complete c) := fun c => by
    unfold Entry.complete
    split
    case isTrue h => exact ⟨fun hi => absurd (he h) hi, rfl, fun _ => rfl, rfl, rfl⟩
    case isFalse => exact .of_latches rfl
  have hlast : ∀ c : Cpu, c.KeepsLatches i (e.complete { c with pc := word c.dbuf c.tl }).retire := fun c =>
    have ⟨hnmi, hirq, hres, hclk, hlast⟩ := hcomplete { c with pc := word c.dbuf c.tl }
    ⟨hnmi, hirq, hres, hclk, hlast⟩
  exact staged (fun _ => rfl) (fun _ => rfl) (staged (fun c => e.pushStatus_psync cfg c) hstatus
    (staged (fun _ => rfl) hmask (staged (fun _ => rfl) (fun _ => rfl) (cons hlast nil))))

end SequenceStages

theorem Cpu.setNZ_latches (v : Byte) (c : Cpu) : (c.setNZ v).latches = c.latches := rfl
theorem Cpu.setShift_latches (t : ShiftResult) (c : Cpu) : (c.setShift t).latches = c.latches := rfl

theorem opAdc_latches (v : Byte) (c c' : Cpu) (h : opAdc v c = .ok c') : c'.latches = c.latches := by
  unfold opAdc at h
  split at h <;> cases h
  rfl

theorem opSbc_latches (v : Byte) (c c' : Cpu) (h : opSbc v c = .ok c') : c'.latches = c.latches := by
  unfold opSbc at h
  split at h <;> cases h
  rfl

/-- Every instruction's micro-steps are such. -/
theorem sequenceOf_stages (cfg : Config) (i : Instr) : SequenceStages i (sequenceOf cfg i) := by
  cases i
  case oraInx | oraZp | oraAbs | oraIny | oraZpx | oraAby | oraAbx | andInx | bitZp | andZp | bitAbs | andAbs | andIny |
      andZpx | andAby | andAbx | eorInx | eorZp | eorAbs | eorIny | eorZpx | eorAby | eorAbx | ldaInx | ldyZp | ldaZp |
      ldxZp | ldyAbs | ldaAbs | ldxAbs | ldaIny | ldyZpx | ldaZpx | ldxZpy | ldaAby | ldyAbx | ldaAbx | ldxAby |
      cmpInx | cpyZp | cmpZp | cpyAbs | cmpAbs | cmpIny | cmpZpx | cmpAby | cmpAbx | cpxZp | cpxAbs =>
    exact .read fun _ _ _ h => by cases h; rfl
  case oraImm | andImm | eorImm | ldyImm | ldxImm | ldaImm | cpyImm | cmpImm | cpxImm =>
    exact .readImm fun _ _ _ h => by cases h; rfl
  case adcInx | adcZp | adcAbs | adcIny | adcZpx | adcAby | adcAbx => exact .read opAdc_latches
  case sbcInx | sbcZp | sbcAbs | sbcIny | sbcZpx | sbcAby | sbcAbx => exact .read opSbc_latches
  case adcImm => exact .readImm opAdc_latches
  case sbcImm => exact .readImm opSbc_latches
  case staInx | styZp | staZp | stxZp | styAbs | staAbs | stxAbs | staIny | styZpx | staZpx | stxZpy | staAby | staAbx =>
    exact .write
  case aslZp | aslAbs | aslZpx | aslAbx | rolZp | rolAbs | rolZpx | rolAbx | lsrZp | lsrAbs | lsrZpx | lsrAbx | rorZp |
      rorAbs | rorZpx | rorAbx =>
    exact .modify fun _ _ => Cpu.setShift_latches _ _
  case decZp | decAbs | decZpx | decAbx | incZp | incAbs | incZpx | incAbx =>
    exact .modify fun _ _ => Cpu.setNZ_latches _ _
  case aslAcc | rolAcc | lsrAcc | rorAcc => exact .accumulator fun _ _ => Cpu.setShift_latches _ _
  case clc | sec | cli | sei | dey | txa | tya | txs | tay | tax | clv | tsx | iny | dex | cld | inx | nop | sed =>
    exact .implied fun _ => rfl
  case bpl | bmi | bvc | bvs | bcc | bcs | bne | beq => exact .branch
  case php | pha => exact .push
  case plp | pla => exact .pull fun _ _ => rfl
  case jmpAbs =>
    exact .opcode (.staged (fun _ => rfl) (fun _ => rfl)
      (.retires (g := fun c => { c with pc := word c.dbuf c.tmp }) fun _ => rfl))
  case jmpInd =>
    exact .opcode (.staged (fun _ => rfl) (fun _ => rfl) (.staged (fun _ => rfl) (fun _ => rfl)
      (.staged (fun _ => rfl) (fun _ => rfl)
        (.retires (g := fun c => { c with pc := word c.dbuf c.tl }) fun _ => rfl))))
  case jsr =>
    exact .opcode (.staged (fun _ => rfl) (fun _ => rfl) (.staged (fun _ => rfl) (fun _ => rfl)
      (.staged (fun _ => rfl) (fun _ => rfl) (.staged (fun _ => rfl) (fun _ => rfl)
        (.retires (g := fun c => { c with pc := word c.dbuf c.tmp }) fun _ => rfl)))))
  case rts =>
    exact .opcode (.staged (fun _ => rfl) (fun _ => rfl) (.staged (fun _ => rfl) (fun _ => rfl)
      (.staged (fun _ => rfl) (fun _ => rfl) (.staged (fun _ => rfl) (fun _ => rfl)
        (.retires (g := Cpu.incPc) fun _ => rfl)))))
  case rti =>
    exact .opcode (.staged (fun _ => rfl) (fun _ => rfl) (.staged (fun _ => rfl) (fun _ => rfl)
      (.staged (fun _ => rfl) (fun _ => rfl) (.staged (fun _ => rfl) (fun _ => rfl)
        (.retires (g := fun c => { c with pc := word c.dbuf c.tl }) fun _ => rfl)))))
  case brk => exact .opcode (.staged (fun _ => rfl) (fun _ => rfl) (.entryTail (e := brkEntry cfg) fun h => by cases h))
  case nmi => exact .staged (fun _ => rfl) (fun _ => rfl) (.entryTail (e := nmiEntry cfg) fun _ => rfl)
  case irq => exact .staged (fun _ => rfl) (fun _ => rfl) (.entryTail (e := irqEntry cfg) fun h => by cases h)
  case reset =>
    exact .staged (fun _ => rfl) (fun _ => rfl) (.staged (fun _ => rfl) (fun _ => rfl)
      (.cons (fun _ => ⟨fun _ => rfl, rfl, fun hi => absurd rfl hi, rfl, rfl⟩) .nil))
  all_goals exact .retires (g := Cpu.incPc) fun _ => rfl

end Stages

/-- A bus cycle between two micro-steps carries `SYNC` = 0. -/
theorem busFrom_sync_eq_false {i : Instr} {k : Nat} {us : List Micro} {ops : List (Option Byte)} {s : State}
    (hus : SequenceStages i us) : ∀ x ∈ busFrom k us ops s, x.sync = false := by
  induction us generalizing k ops s with
  | nil => simp [busFrom]
  | cons u us ih =>
    obtain ⟨hu, hus⟩ := List.forall_mem_cons.mp hus
    specialize hu s.cpu
    unfold busFrom
    split
    · simp
    · simp
    · next c he =>
      rw [he] at hu
      obtain ⟨hsync, -⟩ := hu
      exact List.forall_mem_cons.mpr ⟨hsync, ih hus⟩

/-! #### The bus cycle of cycle 0 -/

/-- A standard bus holds a value of its width as it is. -/
theorem Bus.read_held {b : Bus} (h : b.kind = .standard) {v : Nat} (hv : v < 2 ^ b.width) : (b.held v).read = v := by
  rw [Bus.read_standard (b := b.held v) h]
  exact Bus.and_mask hv

/-- The buses after a clock cycle: those of its ticks, with the staged bus cycle held on the output ports (R160). -/
theorem State.clockCycle_buses (s : State) : ∃ l, s.clockCycle.buses =
    (State.lineTicks (2 * s.cfg.clkDiv) s).buses.onOutputs s.cfg.ports (Bus.held s.cpu.paddr.toNat)
      (Bus.held s.cpu.prw.toNat) (Bus.held s.cpu.psync.toNat) (Bus.heldLine l) := by
  have hports : (State.lineTicks (2 * s.cfg.clkDiv) s).cfg.ports = s.cfg.ports := by rw [(State.lineTicks_kept _ s).cfg]
  rw [← hports, ← s.clockCycle_oaddr, ← s.clockCycle_orw, ← s.clockCycle_osync]
  exact ⟨_, rfl⟩

/-- After a clock cycle the address and control buses carry what was staged for it. -/
theorem State.clockCycle_outputs {s : State} (h : s.portsOk = true) :
    (s.clockCycle.buses.get s.cfg.ports.addr).read = s.cpu.paddr.toNat ∧
      (s.clockCycle.buses.get s.cfg.ports.rw).read = s.cpu.prw.toNat ∧
      (s.clockCycle.buses.get s.cfg.ports.sync).read = s.cpu.psync.toNat := by
  have hwiring := State.sameWiring_lineTicks (2 * s.cfg.clkDiv) s
  have ho := (State.outputsOk_of_portsOk h).of_sameWiring hwiring
  obtain ⟨-, -, -, -, hsync, -⟩ := State.portsOk_iff.mp h
  obtain ⟨-, -, hsyncWidth⟩ := Buses.outputOk_iff.mp hsync
  obtain ⟨l, hbuses⟩ := s.clockCycle_buses
  obtain ⟨haddr, hrw, hsync, -⟩ := ho.get_onOutputs (Bus.held s.cpu.paddr.toNat) (Bus.held s.cpu.prw.toNat)
    (Bus.held s.cpu.psync.toNat) (Bus.heldLine l)
  rw [hbuses, haddr, hrw, hsync]
  refine ⟨Bus.read_held (ho.standard _ (addr_mem_outputs _)) ?_, Bus.read_held (ho.standard _ (rw_mem_outputs _)) ?_,
    Bus.read_held (ho.standard _ (sync_mem_outputs _)) ?_⟩
  · rw [ho.addrWidth]; exact s.cpu.paddr.isLt
  · rw [ho.rwWidth]; exact Bool.toNat_lt _
  · rw [hwiring.width, hsyncWidth]; exact Bool.toNat_lt _

end Sys2Proof.Machine

open Sys2Proof Sys2Proof.Machine

/-- Settles O43: no micro-step that goes on stages `SYNC` (`sequenceOf_stages`), and at a boundary the opcode fetch is staged,
which cycle 0 puts on the buses (`State.clockCycle_outputs`). -/
theorem syncMarksTheOpcodeFetch : Obligations.SyncMarksTheOpcodeFetch := by
  refine ⟨fun i s => busFrom_sync_eq_false (sequenceOf_stages s.cfg i), fun s hlevel => ?_⟩
  simp only [State.instructionLevel, State.atBoundary, Bool.and_eq_true, decide_eq_true_eq] at hlevel
  obtain ⟨⟨hread, hsync, -, haddr⟩, -, hplatform, -⟩ := hlevel
  obtain ⟨-, -, hports, -⟩ := State.platformOk_iff.mp hplatform
  obtain ⟨ha, hr, hs⟩ := State.clockCycle_outputs hports
  rw [haddr] at ha
  rw [hread] at hr
  rw [hsync] at hs
  exact ⟨hs, ha, hr⟩
end

section
/-! ### The lines in an instruction's clock cycles (R150 E1 to E4, R361 to R363) -/

namespace Sys2Proof.Machine

/-! #### Buses that agree off the output ports -/

/-- The same buses, each as it was but for those of the output ports. -/
structure Buses.AgreeOff (p : Ports) (bs bs' : Buses) : Prop where
  has : ∀ id, bs'.has id = bs.has id
  get : ∀ id, id ∉ p.outputs → bs'.get id = bs.get id

section AgreeOff
variable {p : Ports} {bs bs' bs'' : Buses}

theorem Buses.AgreeOff.refl (p : Ports) (bs : Buses) : bs.AgreeOff p bs := ⟨fun _ => rfl, fun _ _ => rfl⟩

theorem Buses.AgreeOff.trans (h : bs.AgreeOff p bs') (h' : bs'.AgreeOff p bs'') : bs.AgreeOff p bs'' :=
  ⟨fun id => (h'.has id).trans (h.has id), fun id hid => (h'.get id hid).trans (h.get id hid)⟩

theorem Buses.AgreeOff.map (h : bs.AgreeOff p bs') (f : Bus → Bus) : (bs.map f).AgreeOff p (bs'.map f) where
  has id := by simpa using h.has id
  get id hid := by simp only [Buses.get_map_eq_ite, h.has, h.get id hid]

theorem Buses.AgreeOff.modify (h : bs.AgreeOff p bs') (id : BusId) (f : Bus → Bus) :
    (bs.modify id f).AgreeOff p (bs'.modify id f) where
  has id' := by simpa using h.has id'
  get id' hid' := by simp only [Buses.get_modify_eq_ite, h.has, h.get id' hid']

theorem Buses.AgreeOff.advance (h : bs.AgreeOff p bs') (hold : Bool) : (bs.advance hold).AgreeOff p (bs'.advance hold) := by
  cases hold
  · exact h.map Bus.advance
  · exact h

/-- The providers may write any bus. -/
theorem Buses.AgreeOff.drive (h : bs.AgreeOff p bs') (writes : List (BusId × Nat)) :
    (bs.drive writes).AgreeOff p (bs'.drive writes) := by
  unfold Buses.drive
  induction writes generalizing bs bs' with
  | nil => exact h
  | cons w ws ih => exact ih (h.modify w.1 _)

theorem Buses.agreeOff_onOutputs (p : Ports) (fa fr fs fd : Bus → Bus) (bs : Buses) :
    (bs.onOutputs p fa fr fs fd).AgreeOff p bs :=
  ⟨fun _ => (Buses.has_onOutputs ..).symm, fun _ hid => (Buses.get_onOutputs_of_not_mem hid).symm⟩

end AgreeOff

/-! #### A state and the ticks of its lines -/

/-- Parameters under which what the CPU drives does not reach its input ports, and a clock cycle has ticks (R8, R40). -/
structure LinesApart (cfg : Config) : Prop where
  clkDiv : 1 ≤ cfg.clkDiv
  clk : cfg.ports.clk ∉ cfg.ports.outputs
  nmi : cfg.ports.nmi ∉ cfg.ports.outputs
  irq : cfg.ports.irq ∉ cfg.ports.outputs
  res : cfg.ports.res ∉ cfg.ports.outputs

theorem linesApart_of_portsOk {s : State} (hclk : s.cfg.clockOk = true) (hports : s.portsOk = true) : LinesApart s.cfg := by
  obtain ⟨-, -, -, -, -, -, hres, hnmi, hirq⟩ := State.portsOk_iff.mp hports
  exact ⟨of_decide_eq_true hclk, State.clk_not_mem_outputs hports, hnmi, hirq, hres⟩

/-- While `i` runs, `s` is as `u` in all that the lines decide: the coming inputs, the buses that the CPU does not drive, the
trackers, and the latches that are set until their instruction clears them. -/
structure State.LinesAgree (i : Instr) (s u : State) : Prop where
  cfg : u.cfg = s.cfg
  inputs : u.inputs = s.inputs
  buses : s.buses.AgreeOff s.cfg.ports u.buses
  lastClk : u.cpu.lastClk = s.cpu.lastClk
  lastNmi : u.cpu.lastNmi = s.cpu.lastNmi
  nmiPend : i ≠ .nmi → u.cpu.nmiPend = s.cpu.nmiPend
  resPend : i ≠ .reset → u.cpu.resPend = s.cpu.resPend

section LinesAgree
variable {i : Instr} {s t u : State} {c : Cpu}

theorem State.LinesAgree.refl (i : Instr) (s : State) : s.LinesAgree i s :=
  ⟨rfl, rfl, .refl _ _, rfl, rfl, fun _ => rfl, fun _ => rfl⟩

theorem State.LinesAgree.trans (h : s.LinesAgree i t) (h' : t.LinesAgree i u) : s.LinesAgree i u where
  cfg := h'.cfg.trans h.cfg
  inputs := h'.inputs.trans h.inputs
  buses := h.buses.trans (h.cfg ▸ h'.buses)
  lastClk := h'.lastClk.trans h.lastClk
  lastNmi := h'.lastNmi.trans h.lastNmi
  nmiPend hi := (h'.nmiPend hi).trans (h.nmiPend hi)
  resPend hi := (h'.resPend hi).trans (h.resPend hi)

/-- A micro-step of `i` touches nothing of it. -/
theorem State.LinesAgree.withCpu (h : s.LinesAgree i u) (hc : s.cpu.KeepsLatches i c) : (s.withCpu c).LinesAgree i u where
  cfg := h.cfg
  inputs := h.inputs
  buses := h.buses
  lastClk := h.lastClk.trans hc.lastClk.symm
  lastNmi := h.lastNmi.trans hc.lastNmi.symm
  nmiPend hi := (h.nmiPend hi).trans (hc.nmiPend hi).symm
  resPend hi := (h.resPend hi).trans (hc.resPend hi).symm

/-- One tick of the lines does the same to both. -/
theorem State.LinesAgree.lineTick (h : s.LinesAgree i u) (hl : LinesApart s.cfg) :
    s.startTick.latchLines.LinesAgree i u.startTick.latchLines := by
  have hbuses : s.startTick.buses.AgreeOff s.cfg.ports u.startTick.buses := by
    simp only [State.startTick, h.cfg, h.inputs]
    exact ((h.buses.map Bus.reset).advance _).drive _
  have hlevel : ∀ id, id ∉ s.cfg.ports.outputs → u.startTick.level id = s.startTick.level id := fun id hid =>
    congrArg Bus.level (hbuses.get id hid)
  have hports : u.cfg.ports = s.cfg.ports := by rw [h.cfg]
  refine ⟨h.cfg, congrArg List.tail h.inputs, hbuses, ?_, ?_, fun hi => ?_, fun hi => ?_⟩
  · show u.startTick.level u.cfg.ports.clk = s.startTick.level s.cfg.ports.clk
    rw [hports, hlevel _ hl.clk]
  · show u.startTick.level u.cfg.ports.nmi = s.startTick.level s.cfg.ports.nmi
    rw [hports, hlevel _ hl.nmi]
  · show (u.cpu.nmiPend || (u.cpu.lastNmi && !u.startTick.level u.cfg.ports.nmi)) =
      (s.cpu.nmiPend || (s.cpu.lastNmi && !s.startTick.level s.cfg.ports.nmi))
    rw [h.nmiPend hi, h.lastNmi, hports, hlevel _ hl.nmi]
  · show (u.cpu.resPend || !u.startTick.level u.cfg.ports.res) = (s.cpu.resPend || !s.startTick.level s.cfg.ports.res)
    rw [h.resPend hi, hports, hlevel _ hl.res]

theorem State.LinesAgree.lineTicks (h : s.LinesAgree i u) (hl : LinesApart s.cfg) (n : Nat) :
    (State.lineTicks n s).LinesAgree i (State.lineTicks n u) := by
  induction n generalizing s u with
  | zero => exact h
  | succ n ih => exact ih (h.lineTick hl) hl

/-- A clock cycle ends as its ticks leave the lines. -/
theorem State.linesAgree_clockCycle (i : Instr) (s : State) :
    s.clockCycle.LinesAgree i (State.lineTicks (2 * s.cfg.clkDiv) s) := by
  obtain ⟨l, hbuses⟩ := s.clockCycle_buses
  refine ⟨rfl, rfl, ?_, rfl, rfl, fun _ => rfl, fun _ => rfl⟩
  rw [hbuses, s.clockCycle_cfg]
  exact Buses.agreeOff_onOutputs ..

theorem State.operandCycle_cfg (b : Option Byte) (s : State) : (s.operandCycle b).cfg = s.cfg := by
  obtain ⟨-, -, -, hspends, -⟩ := State.operandCycle_cycled b s
  exact hspends.cfg

theorem State.LinesAgree.operandCycle (h : s.LinesAgree i u) (hl : LinesApart s.cfg) (b : Option Byte) :
    (s.operandCycle b).LinesAgree i (State.lineTicks (2 * s.cfg.clkDiv) u) := by
  have hcycle := (s.linesAgree_clockCycle i).trans (h.lineTicks hl _)
  cases b with
  | none => exact hcycle
  | some v => exact hcycle.withCpu (.of_latches rfl)

theorem Cpu.KeepsLatches.withCyc {c c' : Cpu} (h : c.KeepsLatches i c') (k : Nat) :
    c.KeepsLatches i { c' with cyc := k } :=
  ⟨h.nmiPend, h.irqPend, h.resPend, h.lastClk, h.lastNmi⟩

/-- A run agrees with the ticks of its bus transactions. -/
theorem State.LinesAgree.runFrom {k : Nat} {us : List Micro} {ops : List (Option Byte)} (hus : SequenceStages i us)
    (hl : LinesApart s.cfg) (h : s.LinesAgree i u) (hrun : runFrom k us ops s = .next t) :
    t.LinesAgree i (State.lineTicks (2 * s.cfg.clkDiv * (busFrom k us ops s).length) u) := by
  induction us generalizing k ops s u with
  | nil => cases hrun; exact h
  | cons v us ih =>
    obtain ⟨hv, hus⟩ := List.forall_mem_cons.mp hus
    specialize hv s.cpu
    obtain ⟨c, he, hrest⟩ | ⟨c, he, rfl⟩ := runFrom_cons_eq_next hrun
    · rw [he] at hv
      obtain ⟨-, hkeep⟩ := hv
      have hstep := h.withCpu (hkeep.withCyc (k + 1))
      have hcfg := State.operandCycle_cfg (ops.headD none) (s.withCpu { c with cyc := k + 1 })
      have hend := ih hus (by rw [hcfg]; exact hl) (hstep.operandCycle hl (ops.headD none)) hrest
      rw [hcfg, State.withCpu_cfg, ← State.lineTicks_add, Nat.add_comm, ← Nat.mul_succ] at hend
      simp only [busFrom, he, List.length_cons]
      exact hend
    · rw [he] at hv
      rw [busFrom_retired he]
      exact h.withCpu (Cpu.KeepsLatches.withCyc hv 0)

theorem exec_linesAgree (hl : LinesApart s.cfg) (h : exec i s = .next t) :
    t.LinesAgree i (State.lineTicks (2 * s.cfg.clkDiv * (transactions i s).length) s) :=
  State.LinesAgree.runFrom (sequenceOf_stages s.cfg i) hl (.refl i s) ((exec_eq_run i s).symm.trans h)

end LinesAgree

end Sys2Proof.Machine
end

section
/-! ### `irqPend` follows the IRQ line and the `P.I` before the last micro-step (R363, R46) -/

namespace Sys2Proof.Machine

/-- `irqPend` is what the IRQ line and the disable bit `m` make it. -/
def State.IrqMasked (m : Bool) (s : State) : Prop :=
  s.cpu.irqPend = (!s.level s.cfg.ports.irq && !m)

/-- No micro-step that goes on changes `P.I`. -/
def MaskKept (us : List Micro) : Prop :=
  ∀ u ∈ us, ∀ c c', u c = .more c' → getFlag .i c'.p = getFlag .i c.p

/-- A run of `us`, the micro-steps of `i`, ends with `irqPend` under the disable bit that `m` gives for the status byte at the
end. -/
def EndsMasked (i : Instr) (m : Byte → Bool) (us : List Micro) : Prop :=
  SequenceStages i us → ∀ (k : Nat) (ops : List (Option Byte)) (s t : State), LinesApart s.cfg →
    runFrom k us ops s = .next t → t.IrqMasked (m t.cpu.p)

section Masked
variable {i j : Instr} {k : Nat} {u : Micro} {us : List Micro} {ops : List (Option Byte)} {s t : State} {c : Cpu}
  {cfg : Config} {g : Cpu → Cpu}

/-- A clock cycle's last tick latches the line under the `P.I` that stands then. -/
theorem State.irqMasked_clockCycle (hl : LinesApart s.cfg) : s.clockCycle.IrqMasked (getFlag .i s.cpu.p) := by
  have hclk := hl.clkDiv
  obtain ⟨n, hn⟩ : ∃ n, 2 * s.cfg.clkDiv = n + 1 := ⟨2 * s.cfg.clkDiv - 1, by omega⟩
  have hp : (State.lineTicks n s).cpu.p = s.cpu.p := by rw [(State.lineTicks_kept n s).cpu]
  have hticks : (State.lineTicks (2 * s.cfg.clkDiv) s).IrqMasked (getFlag .i s.cpu.p) := by
    rw [hn, State.lineTicks_succ, ← hp]
    rfl
  have hports : (State.lineTicks (2 * s.cfg.clkDiv) s).cfg.ports = s.cfg.ports := by rw [(State.lineTicks_kept _ s).cfg]
  have hline := (s.linesAgree_clockCycle .nop).buses.get s.cfg.ports.irq (by rw [s.clockCycle_cfg]; exact hl.irq)
  unfold State.IrqMasked State.level at *
  rw [hports, hline] at hticks
  rw [s.clockCycle_cfg]
  exact hticks

theorem State.irqMasked_operandCycle (hl : LinesApart s.cfg) (b : Option Byte) :
    (s.operandCycle b).IrqMasked (getFlag .i s.cpu.p) := by
  cases b with
  | none => exact State.irqMasked_clockCycle hl
  | some v => exact State.irqMasked_clockCycle hl

theorem State.operandCycle_p (b : Option Byte) (s : State) : (s.operandCycle b).cpu.p = s.cpu.p := by
  obtain ⟨l, d, hcpu, -⟩ := State.operandCycle_cycled b s
  rw [hcpu, Cpu.cycled_p]

/-- After a clock cycle, micro-steps that change `P.I` at their end at most leave `irqPend` under it. -/
theorem irqMasked_of_runFrom_operandCycle {b : Option Byte} (hus : SequenceStages i us) (hmask : MaskKept us)
    (hl : LinesApart s.cfg) (hrun : runFrom k us ops (s.operandCycle b) = .next t) :
    t.IrqMasked (getFlag .i s.cpu.p) := by
  induction us generalizing k ops s b with
  | nil => cases hrun; exact State.irqMasked_operandCycle hl b
  | cons u us ih =>
    obtain ⟨hu, hus⟩ := List.forall_mem_cons.mp hus
    obtain ⟨hkept, hmask⟩ := List.forall_mem_cons.mp hmask
    specialize hu (s.operandCycle b).cpu
    obtain ⟨c, he, hrest⟩ | ⟨c, he, rfl⟩ := runFrom_cons_eq_next hrun
    · have hflag := hkept _ _ he
      rw [State.operandCycle_p] at hflag
      rw [← hflag]
      exact ih (s := (s.operandCycle b).withCpu { c with cyc := k + 1 }) hus hmask
        (by rw [State.withCpu_cfg, State.operandCycle_cfg]; exact hl) hrest
    · rw [he] at hu
      exact hu.irqPend.trans (State.irqMasked_operandCycle hl b)

/-- A run with clock cycles that changes `P.I` at its end at most ends with `irqPend` under the `P.I` it began with. -/
theorem irqMasked_of_runFrom (hus : SequenceStages i us) (hmask : MaskKept us) (hl : LinesApart s.cfg)
    (hbus : busFrom k us ops s ≠ []) (hrun : runFrom k us ops s = .next t) : t.IrqMasked (getFlag .i s.cpu.p) := by
  cases us with
  | nil => exact absurd rfl hbus
  | cons u us =>
    obtain ⟨-, hus⟩ := List.forall_mem_cons.mp hus
    obtain ⟨hkept, hmask⟩ := List.forall_mem_cons.mp hmask
    obtain ⟨c, he, hrest⟩ | ⟨c, he, -⟩ := runFrom_cons_eq_next hrun
    · rw [← hkept _ _ he]
      exact irqMasked_of_runFrom_operandCycle (s := s.withCpu { c with cyc := k + 1 }) hus hmask hl hrest
    · exact absurd (busFrom_retired he) hbus

/-- A run without a clock cycle keeps `irqPend`. -/
theorem irqPend_of_runFrom (hus : SequenceStages i us) (hbus : busFrom k us ops s = [])
    (hrun : runFrom k us ops s = .next t) : t.cpu.irqPend = s.cpu.irqPend := by
  cases us with
  | nil => cases hrun; rfl
  | cons u us =>
    have hu := hus u List.mem_cons_self s.cpu
    obtain ⟨c, he, -⟩ | ⟨c, he, rfl⟩ := runFrom_cons_eq_next hrun
    · simp only [busFrom, he, reduceCtorEq] at hbus
    · rw [he] at hu
      exact hu.irqPend

/-! #### Sequences that keep `P.I` up to their last micro-step -/

theorem SequenceWithin.maskKept (h : SequenceWithin j us) (hj : writesFlag .i j = false) : MaskKept us :=
  fun u hu c c' he => by
    have hc := h u hu c
    rw [he] at hc
    exact hc.flag .i hj

theorem MaskKept.staged (hg : ∀ c, (g c).p = c.p) (hus : MaskKept us) : MaskKept ((fun c => .more (g c)) :: us) :=
  List.forall_mem_cons.mpr ⟨fun c _ he => by cases he; rw [hg c], hus⟩

theorem MaskKept.retires : MaskKept [fun c => .retired (g c)] :=
  List.forall_mem_singleton.mpr fun _ _ he => by cases he

/-- The instructions that write `P.I` before their last micro-step. -/
def masksBeforeEnd : List Instr :=
  [.brk, .nmi, .irq, .reset, .rti]

/-- Every other instruction writes `P.I` in its last micro-step or not at all. -/
theorem sequenceOf_maskKept (cfg : Config) (h : i ∉ masksBeforeEnd) : MaskKept (sequenceOf cfg i) := by
  cases hw : writesFlag .i i with
  | false => exact (sequenceOf_within cfg i).maskKept hw
  | true =>
    replace hw : writesI i = true := hw
    unfold writesI at hw
    split at hw
    case h_2 => exact .staged (fun _ => rfl) (.staged (fun _ => rfl) (.staged (fun _ => rfl) .retires))
    case h_4 | h_5 => exact .staged (fun _ => rfl) .retires
    case h_9 => cases hw
    all_goals exact absurd (by simp [masksBeforeEnd]) h

/-! #### Sequences that settle `P.I` before that -/

variable {m : Byte → Bool}

/-- A micro-step that goes on, before a rest that ends under `m`. -/
theorem EndsMasked.staged (h : EndsMasked i m us) : EndsMasked i m ((fun c => .more (g c)) :: us) :=
  fun hus _ _ _ _ hl hrun =>
    h (List.forall_mem_cons.mp hus).2 _ _ _ _ (by rw [State.operandCycle_cfg]; exact hl) hrun

/-- The micro-step that gives `P.I` the value it keeps until the last one. -/
theorem EndsMasked.settles {v : Bool} (hg : ∀ c, getFlag .i (g c).p = v) (hmask : MaskKept us) :
    EndsMasked i (fun _ => v) ((fun c => .more (g c)) :: us) :=
  fun hus k _ s _ hl hrun => hg s.cpu ▸
    irqMasked_of_runFrom_operandCycle (s := s.withCpu { g s.cpu with cyc := k + 1 }) (List.forall_mem_cons.mp hus).2 hmask
      hl hrun

/-- The micro-step after which `P.I` is the one at the end: the rest is as of an instruction that does not write it. -/
theorem EndsMasked.final (hwithin : SequenceWithin j us) (hj : writesFlag .i j = false) :
    EndsMasked i (getFlag .i) ((fun c => .more (g c)) :: us) := fun hus k _ s t hl hrun => by
  have hend := irqMasked_of_runFrom_operandCycle (s := s.withCpu { g s.cpu with cyc := k + 1 })
    (List.forall_mem_cons.mp hus).2 (hwithin.maskKept hj) hl hrun
  have hflag := (runFrom_within hwithin hrun).flag .i hj
  rw [State.operandCycle_p] at hflag
  rwa [hflag]

/-- IRQ and BRK set `P.I` in the micro-step after the status push (R340, R367). -/
theorem EndsMasked.entryTail {e : Entry} (he : e.maskAfterPush = true) :
    EndsMasked i (fun _ => true) (entrySequence cfg e).tail := by
  have hmask : ∀ c, getFlag .i (e.mask c).p = true := fun c => by
    rw [Entry.mask, if_pos he]
    exact getFlag_setFlag .i .i true c.p
  exact .staged (.staged (.settles (g := fun c => (e.mask c).fetch e.vector) hmask (.staged (fun _ => rfl) .retires)))

theorem seqBrk_endsMasked : EndsMasked i (fun _ => true) (seqBrk cfg) :=
  .staged (.staged (.entryTail rfl))

theorem seqIrq_endsMasked : EndsMasked i (fun _ => true) (seqIrq cfg) :=
  .staged (.entryTail rfl)

/-- NMI sets `P.I` for the status push and clears it in its last micro-step (R366). -/
theorem seqNmi_endsMasked : EndsMasked i (fun _ => true) (seqNmi cfg) := by
  have hstatus : ∀ c, getFlag .i ((nmiEntry cfg).pushStatus cfg c).p = true := fun c =>
    getFlag_setFlag .i .i true c.p
  exact .staged (.staged (.settles hstatus (.staged (fun _ => rfl) (.staged (fun _ => rfl) .retires))))

/-- RESET loads `P` with 0x30 in its first micro-step (R365). -/
theorem seqReset_endsMasked : EndsMasked i (fun _ => false) (seqReset cfg) :=
  have hclear : getFlag .i 0x30#8 = false := by decide
  .settles (fun _ => hclear) (.staged (fun _ => rfl) .retires)

/-- RTI pulls `P` first and then `PC`, as RTS does (R341). -/
theorem seqRti_endsMasked : EndsMasked i (getFlag .i) (seqRti cfg) := by
  have hrest : SequenceWithin .rts ((seqRti cfg).drop 4) :=
    .cons (fun c => Cpu.Within.trans (c' := { c with tl := c.dbuf }) (.of_regs rfl) (Cpu.within_pull rfl cfg _))
      (.retires (g := fun c => { c with pc := word c.dbuf c.tl }) fun _ => .of_regs rfl)
  exact .staged (.staged (.staged (.final hrest rfl)))

end Masked

/-! #### A whole instruction -/

/-- `P.I` as it stands before the last micro-step of an instruction from `s` to `t`. -/
def maskAtEnd (i : Instr) (s t : State) : Bool :=
  if i ∈ [Instr.brk, .nmi, .irq] then true
  else if i = .reset then false
  else if i = .rti then getFlag .i t.cpu.p
  else getFlag .i s.cpu.p

section Exec
variable {i : Instr} {s t : State}

theorem maskAtEnd_of_masking (h : i ∈ [Instr.brk, .nmi, .irq]) : maskAtEnd i s t = true := by
  rw [maskAtEnd, if_pos h]

theorem maskAtEnd_reset : maskAtEnd .reset s t = false := by
  simp [maskAtEnd]

theorem maskAtEnd_rti : maskAtEnd .rti s t = getFlag .i t.cpu.p := by
  simp [maskAtEnd]

theorem maskAtEnd_of_not_mem (h : i ∉ masksBeforeEnd) : maskAtEnd i s t = getFlag .i s.cpu.p := by
  simp only [masksBeforeEnd, List.mem_cons, List.not_mem_nil, or_false, not_or] at h
  simp [maskAtEnd, h]

/-- The end of an instruction whose sequence settles `P.I` before its last micro-step. -/
theorem EndsMasked.exec {m : Byte → Bool} (hm : EndsMasked i m (sequenceOf s.cfg i)) (hl : LinesApart s.cfg)
    (h : exec i s = .next t) : t.IrqMasked (m t.cpu.p) :=
  hm (sequenceOf_stages s.cfg i) _ _ _ _ hl ((exec_eq_run i s).symm.trans h)

/-- An instruction with further bus cycles ends with `irqPend` under the `P.I` before its last micro-step. -/
theorem exec_irqMasked (hl : LinesApart s.cfg) (h : exec i s = .next t) (hbus : transactions i s ≠ []) :
    t.IrqMasked (maskAtEnd i s t) := by
  by_cases hi : i ∈ masksBeforeEnd
  · simp only [masksBeforeEnd, List.mem_cons, List.not_mem_nil, or_false] at hi
    obtain rfl | rfl | rfl | rfl | rfl := hi
    · rw [maskAtEnd_of_masking (by simp)]
      exact EndsMasked.exec seqBrk_endsMasked hl h
    · rw [maskAtEnd_of_masking (by simp)]
      exact EndsMasked.exec seqNmi_endsMasked hl h
    · rw [maskAtEnd_of_masking (by simp)]
      exact EndsMasked.exec seqIrq_endsMasked hl h
    · rw [maskAtEnd_reset]
      exact EndsMasked.exec seqReset_endsMasked hl h
    · rw [maskAtEnd_rti]
      exact EndsMasked.exec seqRti_endsMasked hl h
  · rw [maskAtEnd_of_not_mem hi]
    exact irqMasked_of_runFrom (sequenceOf_stages s.cfg i) (sequenceOf_maskKept s.cfg hi) hl hbus
      ((exec_eq_run i s).symm.trans h)

/-- An instruction without further bus cycles keeps `irqPend`. -/
theorem exec_irqPend_of_no_cycle (h : exec i s = .next t) (hbus : transactions i s = []) :
    t.cpu.irqPend = s.cpu.irqPend :=
  irqPend_of_runFrom (sequenceOf_stages s.cfg i) hbus ((exec_eq_run i s).symm.trans h)

end Exec

end Sys2Proof.Machine

open Sys2Proof Sys2Proof.Machine

/-- Settles O42: the lines of an instruction are those of the ticks of its bus transactions (`exec_linesAgree`), and `irqPend`
is what the last of them latched under the `P.I` that stood then (`exec_irqMasked`). -/
theorem latchesFollowTheLines : Obligations.LatchesFollowTheLines := by
  intro i s t hclk hports hexec p u masked
  have hl := linesApart_of_portsOk hclk hports
  have hlines := exec_linesAgree hl hexec
  have hcfg : t.cfg = s.cfg := hlines.cfg.symm.trans (State.lineTicks_kept _ s).cfg
  refine ⟨hlines.lastClk.symm, hlines.lastNmi.symm, fun hi => (hlines.nmiPend hi).symm, fun hi => (hlines.resPend hi).symm,
    exec_irqPend_of_no_cycle hexec, fun hbus => ?_, fun id hid => (hlines.buses.get id (hcfg.symm ▸ hid)).symm⟩
  have hirq := exec_irqMasked hl hexec hbus
  unfold State.IrqMasked at hirq
  rw [hcfg] at hirq
  exact hirq
end

section
/-! ### The forms of a mnemonic, by instruction class (R124, R169 to R173) -/

namespace Sys2Proof

/-- Only a pseudo-instruction has no encoding (R126). -/
theorem wellFormed_of_encode_ne_nil {i : Instr} (h : encode i ≠ []) : i.wellFormed = true := by
  obtain ⟨hlength, -, hwf⟩ := layout i
  rw [hwf, ← hlength]
  exact decide_eq_true (List.length_pos_of_ne_nil h)

/-- An opcode byte decodes to the instruction whose encoding it begins, with as many of the two bytes after it as that
instruction takes. -/
theorem decodeOpcode_of_encode {i : Instr} {op b1 b2 : Byte} {n : Nat} (h : encode i = op :: [b1, b2].take n) :
    decodeOpcode op b1 b2 = i := by
  have hwf : i.wellFormed = true := wellFormed_of_encode_ne_nil (h ▸ List.cons_ne_nil _ _)
  obtain ⟨op', ops, hencode, -, hdecode⟩ := encode_eq_cons hwf
  obtain ⟨rfl, rfl⟩ := List.cons.inj (hencode.symm.trans h)
  have hbytes := hdecode ([b1, b2].drop n)
  rwa [List.take_append_drop] at hbytes

end Sys2Proof

namespace Sys2Proof.Machine

/-- The opcode of a form decodes to its instruction, and the instruction runs the sequence that `template` gives for its
operand, on the operand's bytes. -/
structure Form.Runs (f : Form) (b1 b2 : Byte) (template : Operand → Option (List Micro)) : Prop where
  decode : decodeOpcode f.opcode b1 b2 = f.instr
  sequence : ∀ cfg, some (sequenceOf cfg f.instr) = template f.operand
  operandBytes : ∀ s, operandBytesOf f.instr s = f.operand.bytes

/-- Class R (R169, R171). -/
def readTemplate (op : ReadOp) (o : Operand) : Option (List Micro) :=
  some (match o.mode with | some m => seqRead m op | none => seqReadImm op)

/-- Class W (R172), which has no immediate form. -/
def writeTemplate (r : Cpu → Byte) (o : Operand) : Option (List Micro) :=
  o.mode.map fun m => seqWrite m r

/-- All forms of a list at once, column by column. -/
theorem forall_mem_runs {l : List Form} {b1 b2 : Byte} {template : Operand → Option (List Micro)}
    (hencode : (l.map fun f => encode f.instr) = l.map fun f => f.opcode :: [b1, b2].take f.operand.bytes.length)
    (hsequence : ∀ cfg, (l.map fun f => some (sequenceOf cfg f.instr)) = l.map fun f => template f.operand)
    (hbytes : ∀ s, (l.map fun f => operandBytesOf f.instr s) = l.map fun f => f.operand.bytes) :
    ∀ f ∈ l, f.Runs b1 b2 template := fun f hf =>
  ⟨decodeOpcode_of_encode (List.map_inj_left.mp hencode f hf), fun cfg => List.map_inj_left.mp (hsequence cfg) f hf,
    fun s => List.map_inj_left.mp (hbytes s) f hf⟩

section Runs
variable {f : Form} {b1 b2 : Byte} {s : State}

/-- A class R form, on states in which its operation has a meaning: `g` is what the operation does to the registers. -/
theorem Form.Runs.exec_read {op : ReadOp} (h : f.Runs b1 b2 (readTemplate op)) (g : Regs → Regs)
    (hop : ∀ c : Cpu, c.regs = { s.regs with pc := s.cpu.pc + f.operand.length } →
      ∃ c', op (f.operand.value s) c = .ok c' ∧ c'.regs = g c.regs ∧ c'.ir = c.ir) :
    ∃ t, exec f.instr s = .next t ∧
      Retires s t f.operand.cycles (g { s.regs with pc := s.cpu.pc + f.operand.length }) ∧
      KeepsMemory s t ∧ transactions f.instr s = f.operand.loadReads s := by
  rw [exec_eq_run, transactions, h.operandBytes]
  exact run_read (Option.some.inj (h.sequence s.cfg)) fun c hc => hc ▸ hop c hc

/-- A class W form: the byte is that of the register at dispatch, when the register does not depend on `PC`. -/
theorem Form.Runs.exec_write {r : Cpu → Byte} (h : f.Runs b1 b2 (writeTemplate r))
    (hr : ∀ c : Cpu, c.regs = { s.regs with pc := s.cpu.pc + f.operand.length } → r c = r s.cpu) :
    ∃ t ea, f.operand.address s = some ea ∧ exec f.instr s = .next t ∧
      Retires s t f.operand.cycles { s.regs with pc := s.cpu.pc + f.operand.length } ∧
      Stores s t [(ea, r s.cpu)] ∧
      transactions f.instr s = f.operand.addressReads s ++ [busWrite ea (r s.cpu)] := by
  obtain ⟨m, hmode, hseq⟩ := Option.map_eq_some_iff.mp (h.sequence s.cfg).symm
  rw [exec_eq_run, transactions, h.operandBytes, ← hseq]
  exact run_write hmode hr

end Runs

/-! #### The loads and stores (R200 to R205) -/

section Forms
variable (b1 b2 : Byte)

theorem formsLda_run : ∀ f ∈ formsLda b1 b2, f.Runs b1 b2 (readTemplate opLda) :=
  forall_mem_runs rfl (fun _ => rfl) fun _ => rfl

theorem formsLdx_run : ∀ f ∈ formsLdx b1 b2, f.Runs b1 b2 (readTemplate opLdx) :=
  forall_mem_runs rfl (fun _ => rfl) fun _ => rfl

theorem formsLdy_run : ∀ f ∈ formsLdy b1 b2, f.Runs b1 b2 (readTemplate opLdy) :=
  forall_mem_runs rfl (fun _ => rfl) fun _ => rfl

theorem formsSta_run : ∀ f ∈ formsSta b1 b2, f.Runs b1 b2 (writeTemplate Cpu.a) :=
  forall_mem_runs rfl (fun _ => rfl) fun _ => rfl

theorem formsStx_run : ∀ f ∈ formsStx b1 b2, f.Runs b1 b2 (writeTemplate Cpu.x) :=
  forall_mem_runs rfl (fun _ => rfl) fun _ => rfl

theorem formsSty_run : ∀ f ∈ formsSty b1 b2, f.Runs b1 b2 (writeTemplate Cpu.y) :=
  forall_mem_runs rfl (fun _ => rfl) fun _ => rfl

end Forms

end Sys2Proof.Machine

open Sys2Proof Sys2Proof.Machine

/-- Settles O7: each form is of class R (`formsLda_run`) with an operation that loads `A`. -/
theorem ldaLoadsAccumulator : Obligations.LdaLoadsAccumulator := by
  intro s b1 b2 f hf
  have hruns := formsLda_run b1 b2 f hf
  exact ⟨hruns.decode,
    hruns.exec_read (fun r => { r with a := f.operand.value s, p := withNZ (f.operand.value s) r.p })
      fun _ _ => ⟨_, rfl, rfl, rfl⟩⟩

/-- Settles O8: each form is of class R (`formsLdx_run`, `formsLdy_run`) with an operation that loads `X`, or `Y`. -/
theorem ldxLdyLoadIndexRegisters : Obligations.LdxLdyLoadIndexRegisters := by
  intro s b1 b2
  refine List.forall_mem_cons.mpr ⟨fun f hf => ?_, List.forall_mem_singleton.mpr fun f hf => ?_⟩
  · have hruns := formsLdx_run b1 b2 f hf
    exact ⟨hruns.decode,
      hruns.exec_read (fun r => { r with x := f.operand.value s, p := withNZ (f.operand.value s) r.p })
        fun _ _ => ⟨_, rfl, rfl, rfl⟩⟩
  · have hruns := formsLdy_run b1 b2 f hf
    exact ⟨hruns.decode,
      hruns.exec_read (fun r => { r with y := f.operand.value s, p := withNZ (f.operand.value s) r.p })
        fun _ _ => ⟨_, rfl, rfl, rfl⟩⟩

/-- Settles O9: each form is of class W (`formsSta_run`), and address formation leaves `A` as it was. -/
theorem staStoresAccumulator : Obligations.StaStoresAccumulator := by
  intro s b1 b2 f hf
  have hruns := formsSta_run b1 b2 f hf
  exact ⟨hruns.decode, hruns.exec_write fun _ hc => congrArg Regs.a hc⟩

/-- Settles O10: each form is of class W (`formsStx_run`, `formsSty_run`), and address formation leaves `X` and `Y` as they
were. -/
theorem stxStyStoreIndexRegisters : Obligations.StxStyStoreIndexRegisters := by
  intro s b1 b2
  refine List.forall_mem_cons.mpr ⟨fun f hf => ?_, List.forall_mem_singleton.mpr fun f hf => ?_⟩
  · have hruns := formsStx_run b1 b2 f hf
    exact ⟨hruns.decode, hruns.exec_write fun _ hc => congrArg Regs.x hc⟩
  · have hruns := formsSty_run b1 b2 f hf
    exact ⟨hruns.decode, hruns.exec_write fun _ hc => congrArg Regs.y hc⟩
end

section
/-! ### The adder in closed form, and as integer facts (R220, R222, R232) -/

namespace Sys2Proof.Machine

/-- What `add8` returns (R220): the sum, its carry out, and overflow where the operands share a sign that the result does
not. -/
theorem add8_eq (a m : Byte) (cin : Bool) :
    let r := BitVec.ofNat 8 (a.toNat + m.toNat + cin.toNat)
    add8 a m cin =
      { r := r
        carry := decide (0x100 ≤ a.toNat + m.toNat + cin.toNat)
        overflow := decide (a.getLsbD 7 = m.getLsbD 7 ∧ r.getLsbD 7 ≠ a.getLsbD 7) } :=
  congrArg (AddResult.mk _ _) (Bool.decide_and _ _).symm

/-- The overflow of the adder is that of the signed sum. -/
theorem add8_overflow_iff (a m : Byte) (cin : Bool) : (add8 a m cin).overflow = true ↔
    a.toInt + m.toInt + cin.toNat < -128 ∨ 127 < a.toInt + m.toInt + cin.toNat := by
  have hsign : ∀ v : Byte, v.getLsbD 7 = decide (128 ≤ v.toNat) := fun v => BitVec.msb_eq_decide v
  have ha := a.isLt
  have hm := m.isLt
  have hc := cin.toNat_lt
  simp only [add8_eq, hsign, BitVec.toInt_eq_toNat_cond, BitVec.toNat_ofNat, decide_eq_true_eq, ne_eq, decide_eq_decide]
  omega

theorem toNat_complement (m : Byte) : (m ^^^ 0xFF#8).toNat = 255 - m.toNat := by
  rw [show m ^^^ 0xFF#8 = ~~~m from BitVec.xor_allOnes, BitVec.toNat_not]

theorem toInt_complement (m : Byte) : (m ^^^ 0xFF#8).toInt = -m.toInt - 1 := by
  have hm := m.isLt
  simp only [BitVec.toInt_eq_toNat_cond, toNat_complement]
  omega

/-- What the subtraction returns (R222): the difference, "no borrow", and overflow where the operands differ in sign and the
result has not the sign of the first. -/
theorem sub8_eq (a m : Byte) (cin : Bool) :
    let r := a - m - BitVec.ofNat 8 (!cin).toNat
    sub8 a m cin =
      { r := r
        carry := decide (m.toNat + (!cin).toNat ≤ a.toNat)
        overflow := decide (a.getLsbD 7 ≠ m.getLsbD 7 ∧ r.getLsbD 7 ≠ a.getLsbD 7) } := by
  have hr : BitVec.ofNat 8 (a.toNat + (m ^^^ 0xFF#8).toNat + cin.toNat) = a - m - BitVec.ofNat 8 (!cin).toNat := by
    apply BitVec.eq_of_toNat_eq
    simp only [BitVec.toNat_ofNat, BitVec.toNat_sub, toNat_complement]
    have ha := a.isLt
    have hm := m.isLt
    cases cin <;> simp <;> omega
  have hc : 0x100 ≤ a.toNat + (m ^^^ 0xFF#8).toNat + cin.toNat ↔ m.toNat + (!cin).toNat ≤ a.toNat := by
    have hm := m.isLt
    rw [toNat_complement]
    cases cin <;> simp <;> omega
  have hv : a.getLsbD 7 = (m ^^^ 0xFF#8).getLsbD 7 ↔ a.getLsbD 7 ≠ m.getLsbD 7 := by
    simp [Bool.eq_not]
  simp only [sub8, add8_eq, hr, hc, hv]

end Sys2Proof.Machine

open Sys2Proof Sys2Proof.Machine

/-- Settles O17: the adder and the subtraction in closed form (`add8_eq`, `sub8_eq`), and the overflow of the signed sum
(`add8_overflow_iff`), which for the complemented operand is that of the difference. -/
theorem adderCarryAndOverflowAreExact : Obligations.AdderCarryAndOverflowAreExact := by
  intro a m cin
  refine ⟨?_, ?_, ?_, add8_overflow_iff a m cin, ?_, ?_, ?_⟩
  · rw [add8_eq, decide_eq_true_eq]
  · rw [add8_eq, BitVec.toNat_ofNat]
  · rw [add8_eq, decide_eq_true_eq]
  · rw [sub8_eq, decide_eq_true_eq]
  · rw [sub8_eq]
  · rw [sub8, add8_overflow_iff, toInt_complement]
    cases cin <;> simp <;> omega
end

section
/-! ### Class R operations on the accumulator and the flags (R221 to R231) -/

namespace Sys2Proof.Machine

/-- ADC and SBC as one operation: what adds the operand to `A` tells them apart (R221, R222, R224). -/
def opArith (add : Byte → Byte → Bool → AddResult) : ReadOp := fun m c =>
  if c.flag .d then .error .decimalMode
  else .ok ({ c with a := (add c.a m (c.flag .c)).r }.setAdd (add c.a m (c.flag .c)))

theorem opAdc_eq_opArith : opAdc = opArith add8 := rfl

theorem opSbc_eq_opArith : opSbc = opArith sub8 := rfl

/-- The registers after an addition: the sum in `A`, and its four flags. -/
def Regs.added (sum : AddResult) (r : Regs) : Regs :=
  { r with
    a := sum.r
    p := withFlags [(.c, sum.carry), (.v, sum.overflow), (.z, decide (sum.r = 0#8)), (.n, sum.r.getLsbD 7)] r.p }

/-- The flags of a compare as facts about the two bytes (R228 to R230). -/
theorem Cpu.setCompare_p_eq (r m : Byte) (c : Cpu) : (c.setCompare r m).p =
    withFlags [(.c, decide (m.toNat ≤ r.toNat)), (.z, decide (r = m)), (.n, (r - m).getLsbD 7)] c.p := by
  have hz : r - m = 0#8 ↔ r = m := sub_eq_zero
  simp only [Cpu.setCompare_p, BitVec.le_def, hz]

/-! #### The forms of each mnemonic -/

section Forms
variable (b1 b2 : Byte)

theorem formsAdc_run : ∀ f ∈ formsAdc b1 b2, f.Runs b1 b2 (readTemplate opAdc) :=
  forall_mem_runs rfl (fun _ => rfl) fun _ => rfl

theorem formsSbc_run : ∀ f ∈ formsSbc b1 b2, f.Runs b1 b2 (readTemplate opSbc) :=
  forall_mem_runs rfl (fun _ => rfl) fun _ => rfl

theorem formsAnd_run : ∀ f ∈ formsAnd b1 b2, f.Runs b1 b2 (readTemplate opAnd) :=
  forall_mem_runs rfl (fun _ => rfl) fun _ => rfl

theorem formsOra_run : ∀ f ∈ formsOra b1 b2, f.Runs b1 b2 (readTemplate opOra) :=
  forall_mem_runs rfl (fun _ => rfl) fun _ => rfl

theorem formsEor_run : ∀ f ∈ formsEor b1 b2, f.Runs b1 b2 (readTemplate opEor) :=
  forall_mem_runs rfl (fun _ => rfl) fun _ => rfl

theorem formsCmp_run : ∀ f ∈ formsCmp b1 b2, f.Runs b1 b2 (readTemplate opCmp) :=
  forall_mem_runs rfl (fun _ => rfl) fun _ => rfl

theorem formsCpx_run : ∀ f ∈ formsCpx b1 b2, f.Runs b1 b2 (readTemplate opCpx) :=
  forall_mem_runs rfl (fun _ => rfl) fun _ => rfl

theorem formsCpy_run : ∀ f ∈ formsCpy b1 b2, f.Runs b1 b2 (readTemplate opCpy) :=
  forall_mem_runs rfl (fun _ => rfl) fun _ => rfl

theorem formsBit_run : ∀ f ∈ formsBit b1 b2, f.Runs b1 b2 (readTemplate opBit) :=
  forall_mem_runs rfl (fun _ => rfl) fun _ => rfl

end Forms

/-! #### A form as a whole -/

section Runs
variable {f : Form} {b1 b2 : Byte} {s : State}

section Arith
variable {add : Byte → Byte → Bool → AddResult} (h : f.Runs b1 b2 (readTemplate (opArith add)))
include h

/-- ADC and SBC while `P.D` = 1 (R224). -/
theorem Form.Runs.exec_arith_decimal (hd : getFlag .d s.cpu.p = true) : exec f.instr s = .refused .decimalMode := by
  rw [exec_eq_run, h.operandBytes]
  exact run_read_refused (Option.some.inj (h.sequence s.cfg)) fun m c hp => if_pos (by rwa [Cpu.flag, hp])

/-- ADC and SBC while `P.D` = 0: the registers after the addition (R221, R222). -/
theorem Form.Runs.exec_arith_binary (hd : getFlag .d s.cpu.p = false) :
    ∃ t, exec f.instr s = .next t ∧
      Retires s t f.operand.cycles
        ({ s.regs with pc := s.cpu.pc + f.operand.length }.added
          (add s.cpu.a (f.operand.value s) (getFlag .c s.cpu.p))) ∧
      KeepsMemory s t ∧ transactions f.instr s = f.operand.loadReads s := by
  refine h.exec_read (fun r => r.added (add r.a (f.operand.value s) (getFlag .c r.p))) fun c hc => ?_
  have hp : c.p = s.cpu.p := congrArg Regs.p hc
  exact ⟨_, if_neg (by simp [Cpu.flag, hp, hd]), rfl, rfl⟩

end Arith

/-- A form that combines `A` with its operand and sets Z and N (R225 to R227). -/
theorem Form.Runs.exec_logic {g : Byte → Byte → Byte}
    (h : f.Runs b1 b2 (readTemplate fun m c => .ok ({ c with a := g c.a m }.setNZ (g c.a m)))) :
    ∃ t, exec f.instr s = .next t ∧
      Retires s t f.operand.cycles
        { s.regs with
          a := g s.cpu.a (f.operand.value s)
          p := withNZ (g s.cpu.a (f.operand.value s)) s.cpu.p
          pc := s.cpu.pc + f.operand.length } ∧
      KeepsMemory s t ∧ transactions f.instr s = f.operand.loadReads s :=
  h.exec_read (fun r => { r with a := g r.a (f.operand.value s), p := withNZ (g r.a (f.operand.value s)) r.p })
    fun _ _ => ⟨_, rfl, rfl, rfl⟩

/-- A form that compares a register other than `PC` with its operand (R228 to R230). -/
theorem Form.Runs.exec_compare {reg : Cpu → Byte}
    (h : f.Runs b1 b2 (readTemplate fun m c => .ok (c.setCompare (reg c) m)))
    (hreg : ∀ c : Cpu, c.regs = { s.regs with pc := s.cpu.pc + f.operand.length } → reg c = reg s.cpu) :
    let m := f.operand.value s
    ∃ t, exec f.instr s = .next t ∧
      Retires s t f.operand.cycles
        { s.regs with
          p := withFlags [(.c, decide (m.toNat ≤ (reg s.cpu).toNat)), (.z, decide (reg s.cpu = m)),
            (.n, (reg s.cpu - m).getLsbD 7)] s.cpu.p
          pc := s.cpu.pc + f.operand.length } ∧
      KeepsMemory s t ∧ transactions f.instr s = f.operand.loadReads s := by
  refine h.exec_read (fun r => { r with p := withFlags _ r.p }) fun c hc => ⟨_, rfl, ?_, rfl⟩
  rw [hreg c hc, Cpu.regs, Cpu.setCompare_p_eq]
  rfl

end Runs

end Sys2Proof.Machine

open Sys2Proof Sys2Proof.Machine

/-- Settles O11: each form is of class R (`formsAdc_run`) and leaves what the adder returns (`add8_eq`). -/
theorem adcAddsWithCarry : Obligations.AdcAddsWithCarry := by
  intro s b1 b2 f hf
  have hruns := opAdc_eq_opArith ▸ formsAdc_run b1 b2 f hf
  refine ⟨hruns.decode, hruns.exec_arith_decimal, fun hd => ?_⟩
  have hbinary := hruns.exec_arith_binary hd
  rw [add8_eq] at hbinary
  exact hbinary

/-- Settles O12: each form is of class R (`formsSbc_run`) and leaves what the subtraction returns (`sub8_eq`). -/
theorem sbcSubtractsWithBorrow : Obligations.SbcSubtractsWithBorrow := by
  intro s b1 b2 f hf
  have hruns := opSbc_eq_opArith ▸ formsSbc_run b1 b2 f hf
  refine ⟨hruns.decode, hruns.exec_arith_decimal, fun hd => ?_⟩
  have hbinary := hruns.exec_arith_binary hd
  rw [sub8_eq] at hbinary
  exact hbinary

/-- Settles O14: each form is of class R (`formsAnd_run`, `formsOra_run`, `formsEor_run`) and combines `A` with its operand
(`Form.Runs.exec_logic`). -/
theorem logicCombinesIntoAccumulator : Obligations.LogicCombinesIntoAccumulator := by
  intro s b1 b2
  refine List.forall_mem_cons.mpr ⟨fun f hf => ?_, List.forall_mem_cons.mpr ⟨fun f hf => ?_,
    List.forall_mem_singleton.mpr fun f hf => ?_⟩⟩
  · have hruns := formsAnd_run b1 b2 f hf
    exact ⟨hruns.decode, hruns.exec_logic (g := fun a m => a &&& m)⟩
  · have hruns := formsOra_run b1 b2 f hf
    exact ⟨hruns.decode, hruns.exec_logic (g := fun a m => a ||| m)⟩
  · have hruns := formsEor_run b1 b2 f hf
    exact ⟨hruns.decode, hruns.exec_logic (g := fun a m => a ^^^ m)⟩

/-- Settles O15: each form is of class R (`formsCmp_run`, `formsCpx_run`, `formsCpy_run`) and compares its register with its
operand (`Form.Runs.exec_compare`). -/
theorem compareSetsFlagsOnly : Obligations.CompareSetsFlagsOnly := by
  intro s b1 b2
  refine List.forall_mem_cons.mpr ⟨fun f hf => ?_, List.forall_mem_cons.mpr ⟨fun f hf => ?_,
    List.forall_mem_singleton.mpr fun f hf => ?_⟩⟩
  · have hruns := formsCmp_run b1 b2 f hf
    exact ⟨hruns.decode, hruns.exec_compare (reg := Cpu.a) fun _ hc => congrArg Regs.a hc⟩
  · have hruns := formsCpx_run b1 b2 f hf
    exact ⟨hruns.decode, hruns.exec_compare (reg := Cpu.x) fun _ hc => congrArg Regs.x hc⟩
  · have hruns := formsCpy_run b1 b2 f hf
    exact ⟨hruns.decode, hruns.exec_compare (reg := Cpu.y) fun _ hc => congrArg Regs.y hc⟩

/-- Settles O16: each form is of class R (`formsBit_run`) with an operation on the flags of `A` and the operand. -/
theorem bitTestsOperand : Obligations.BitTestsOperand := by
  intro s b1 b2 f hf
  have hruns := formsBit_run b1 b2 f hf
  let m := f.operand.value s
  exact ⟨hruns.decode,
    hruns.exec_read
      (fun r => { r with p := withFlags [(.z, decide (r.a &&& m = 0#8)), (.n, m.getLsbD 7), (.v, m.getLsbD 6)] r.p })
      fun _ _ => ⟨_, rfl, rfl, rfl⟩⟩
end

section
/-! ### What stops an instruction: nothing but `P.D` = 1 in ADC and SBC (R224, R343, R369) -/

namespace Sys2Proof.Machine

/-- A micro-step's end refuses at most the decimal mode of an instruction that tests for it, with `P.D` = 1. -/
def MicroEnd.Completes (i : Instr) (c : Cpu) : MicroEnd → Prop
  | .more _ => True
  | .retired _ => True
  | .refuse r => r = .decimalMode ∧ readsDecimal i = true ∧ getFlag .d c.p = true

/-- A sequence of such micro-steps. -/
def SequenceCompletes (i : Instr) (us : List Micro) : Prop :=
  ∀ u ∈ us, ∀ c, (u c).Completes i c

/-- A class R operation that refuses at most the decimal mode. -/
def ReadOp.Completes (i : Instr) (op : ReadOp) : Prop :=
  ∀ v c r, op v c = .error r → r = .decimalMode ∧ readsDecimal i = true ∧ getFlag .d c.p = true

section Completes
variable {i : Instr}

/-- A class R operation that always has a meaning. -/
theorem ReadOp.Completes.ok {g : Byte → Cpu → Cpu} : ReadOp.Completes i fun v c => .ok (g v c) :=
  fun _ _ _ h => by cases h

theorem opArith_completes (hi : readsDecimal i = true) (add : Byte → Byte → Bool → AddResult) :
    ReadOp.Completes i (opArith add) := by
  intro v c r h
  unfold opArith at h
  split at h
  case isTrue hd => cases h; exact ⟨rfl, hi, hd⟩
  case isFalse => cases h

namespace SequenceCompletes
variable {us us' : List Micro} {u : Micro} {m : AddrMode}

theorem nil : SequenceCompletes i [] := by simp [SequenceCompletes]

theorem cons (h : ∀ c, (u c).Completes i c) (hus : SequenceCompletes i us) : SequenceCompletes i (u :: us) :=
  List.forall_mem_cons.mpr ⟨h, hus⟩

theorem append (h : SequenceCompletes i us) (h' : SequenceCompletes i us') : SequenceCompletes i (us ++ us') :=
  List.forall_mem_append.mpr ⟨h, h'⟩

/-- A micro-step that always goes on. -/
theorem staged {g : Cpu → Cpu} (hus : SequenceCompletes i us) : SequenceCompletes i ((fun c => .more (g c)) :: us) :=
  cons (fun _ => trivial) hus

/-- A last micro-step that always retires. -/
theorem retires {g : Cpu → Cpu} : SequenceCompletes i [fun c => .retired (g c)] :=
  cons (fun _ => trivial) nil

theorem formation {stage : Word → Cpu → Cpu} : SequenceCompletes i (formation m stage) := by
  cases m with
  | zp => exact staged nil
  | zpx | zpy | abs | abx | aby => exact staged (staged nil)
  | inx => exact staged (staged (staged (staged nil)))
  | iny => exact staged (staged (staged nil))

/-- The operation of class R, on a CPU with the same status byte. -/
theorem readEnd {op : ReadOp} (hop : op.Completes i) {g : Cpu → Cpu} (hg : ∀ c, (g c).p = c.p) :
    SequenceCompletes i [fun c => readEnd op (g c)] := by
  refine cons (fun c => ?_) nil
  unfold Machine.readEnd
  cases h : op (g c).dbuf (g c) with
  | ok c' => trivial
  | error r =>
    obtain ⟨hr, hi, hd⟩ := hop _ _ _ h
    exact ⟨hr, hi, hg c ▸ hd⟩

theorem read {op : ReadOp} (hop : op.Completes i) : SequenceCompletes i (seqRead m op) :=
  append (staged formation) (readEnd hop (g := id) fun _ => rfl)

theorem readImm {op : ReadOp} (hop : op.Completes i) : SequenceCompletes i (seqReadImm op) :=
  staged (readEnd hop (g := Cpu.incPc) fun _ => rfl)

theorem write {r : Cpu → Byte} : SequenceCompletes i (seqWrite m r) :=
  append (staged formation) retires

theorem modify {f : ModifyOp} : SequenceCompletes i (seqModify m f) :=
  append (staged formation) (staged (staged retires))

theorem branch {cond : Cpu → Bool} : SequenceCompletes i (seqBranch cond) :=
  staged (cons (fun _ => by split <;> trivial) retires)

end SequenceCompletes

/-- No micro-step of any instruction refuses, but for the decimal mode of ADC and SBC. -/
theorem sequenceOf_completes (cfg : Config) (i : Instr) : SequenceCompletes i (sequenceOf cfg i) := by
  cases i
  case oraInx | oraZp | oraAbs | oraIny | oraZpx | oraAby | oraAbx | andInx | bitZp | andZp | bitAbs | andAbs | andIny |
      andZpx | andAby | andAbx | eorInx | eorZp | eorAbs | eorIny | eorZpx | eorAby | eorAbx | ldaInx | ldyZp | ldaZp |
      ldxZp | ldyAbs | ldaAbs | ldxAbs | ldaIny | ldyZpx | ldaZpx | ldxZpy | ldaAby | ldyAbx | ldaAbx | ldxAby |
      cmpInx | cpyZp | cmpZp | cpyAbs | cmpAbs | cmpIny | cmpZpx | cmpAby | cmpAbx | cpxZp | cpxAbs =>
    exact .read .ok
  case oraImm | andImm | eorImm | ldyImm | ldxImm | ldaImm | cpyImm | cmpImm | cpxImm => exact .readImm .ok
  case adcInx | adcZp | adcAbs | adcIny | adcZpx | adcAby | adcAbx => exact .read (opArith_completes rfl add8)
  case sbcInx | sbcZp | sbcAbs | sbcIny | sbcZpx | sbcAby | sbcAbx => exact .read (opArith_completes rfl sub8)
  case adcImm => exact .readImm (opArith_completes rfl add8)
  case sbcImm => exact .readImm (opArith_completes rfl sub8)
  case staInx | styZp | staZp | stxZp | styAbs | staAbs | stxAbs | staIny | styZpx | staZpx | stxZpy | staAby | staAbx =>
    exact .write
  case aslZp | aslAbs | aslZpx | aslAbx | rolZp | rolAbs | rolZpx | rolAbx | lsrZp | lsrAbs | lsrZpx | lsrAbx | rorZp |
      rorAbs | rorZpx | rorAbx | decZp | decAbs | decZpx | decAbx | incZp | incAbs | incZpx | incAbx =>
    exact .modify
  case bpl | bmi | bvc | bvs | bcc | bcs | bne | beq => exact .branch
  case aslAcc | rolAcc | lsrAcc | rorAcc | clc | sec | cli | sei | dey | txa | tya | txs | tay | tax | clv | tsx | iny |
      dex | cld | inx | nop | sed =>
    exact .staged .retires
  case php | pha | jmpAbs | reset => exact .staged (.staged .retires)
  case plp | pla => exact .staged (.staged (.staged .retires))
  case jmpInd => exact .staged (.staged (.staged (.staged .retires)))
  case jsr | rts | rti | nmi | irq => exact .staged (.staged (.staged (.staged (.staged .retires))))
  case brk => exact .staged (.staged (.staged (.staged (.staged (.staged .retires)))))
  all_goals exact .retires

/-- ADC and SBC write no `P.D` (R31). -/
theorem writesD_of_readsDecimal (h : readsDecimal i = true) : writesFlag .d i = false := by
  cases i
  case adcInx | adcZp | adcImm | adcAbs | adcIny | adcZpx | adcAby | adcAbx | sbcInx | sbcZp | sbcImm | sbcAbs | sbcIny |
      sbcZpx | sbcAby | sbcAbx =>
    rfl
  all_goals cases h

/-- Their first micro-step is that of every opcode (R158). -/
theorem sequenceOf_head_of_readsDecimal (cfg : Config) (h : readsDecimal i = true) :
    (sequenceOf cfg i)[0]? = some microZero := by
  cases i
  case adcInx | adcZp | adcImm | adcAbs | adcIny | adcZpx | adcAby | adcAbx | sbcInx | sbcZp | sbcImm | sbcAbs | sbcIny |
      sbcZpx | sbcAby | sbcAbx =>
    rfl
  all_goals cases h

/-- A run answers a next state, or it meets `P.D` = 1, which the micro-steps before have left as it was. -/
theorem runFrom_cases {k : Nat} {us : List Micro} {ops : List (Option Byte)} {s : State}
    (hcompletes : SequenceCompletes i us) (hwithin : SequenceWithin i us) :
    (∃ t, runFrom k us ops s = .next t) ∨
      (runFrom k us ops s = .refused .decimalMode ∧ readsDecimal i = true ∧ getFlag .d s.cpu.p = true) := by
  induction us generalizing k ops s with
  | nil => exact .inl ⟨s, rfl⟩
  | cons u us ih =>
    obtain ⟨hu, hcompletes⟩ := List.forall_mem_cons.mp hcompletes
    obtain ⟨hw, hwithin⟩ := List.forall_mem_cons.mp hwithin
    specialize hu s.cpu
    specialize hw s.cpu
    cases he : u s.cpu with
    | retired c => exact .inl ⟨_, runFrom_retired he⟩
    | refuse r =>
      rw [he] at hu
      obtain ⟨rfl, hi, hd⟩ := hu
      exact .inr ⟨runFrom_refuse he, hi, hd⟩
    | more c =>
      rw [he] at hw
      simp only [runFrom, he]
      refine (ih hcompletes hwithin).imp_right fun ⟨hrefused, hi, hd⟩ => ⟨hrefused, hi, ?_⟩
      rw [State.operandCycle_p] at hd
      exact (hw.flag .d (writesD_of_readsDecimal hi)).symm.trans hd

/-- An instruction answers a next state, or it is ADC or SBC and meets `P.D` = 1. -/
theorem exec_cases (i : Instr) (s : State) : (∃ t, exec i s = .next t) ∨
    (exec i s = .refused .decimalMode ∧ readsDecimal i = true ∧ getFlag .d s.cpu.p = true) := by
  rw [exec_eq_run]
  exact runFrom_cases (sequenceOf_completes s.cfg i) (sequenceOf_within s.cfg i)

end Completes
end Sys2Proof.Machine

open Sys2Proof Sys2Proof.Machine

/-- Settles O13: every form of ADC and SBC tests `P.D` (`Form.Runs.exec_arith_decimal`), and nothing else stops an
instruction (`exec_cases`). -/
theorem onlyDecimalAdcAndSbcAreRefused : Obligations.OnlyDecimalAdcAndSbcAreRefused := by
  refine ⟨fun s b1 b2 hd => List.forall_mem_append.mpr ⟨fun f hf => ?_, fun f hf => ?_⟩, fun i s h => ?_⟩
  · exact (opAdc_eq_opArith ▸ formsAdc_run b1 b2 f hf).exec_arith_decimal hd
  · exact (opSbc_eq_opArith ▸ formsSbc_run b1 b2 f hf).exec_arith_decimal hd
  · obtain hnext | ⟨-, hi, hd⟩ := exec_cases i s
    · exact hnext
    · rw [hi, hd] at h
      simp at h
end

section
/-! ### What stops the machine (R13, R45, R73, R179, R224; U7, U18) -/

namespace Sys2Proof.Machine

/-! #### The selector and its sequence (R44, R45) -/

/-- An opcode byte selects an instruction, whatever differences from the table of R123 the parameters list. -/
theorem exists_decodeSelector_of_opcode (cfg : Config) (op b1 b2 : Byte) :
    ∃ i, decodeSelector cfg (op.setWidth 9) b1 b2 = some i := by
  have hlt : (op.setWidth 9).toNat < 256 := by simp; omega
  rw [decodeSelector, if_pos hlt]
  split_ifs <;> exact ⟨_, rfl⟩

/-- Whatever the arbiter selects is an instruction (R364). -/
theorem exists_decodeSelector_select (cfg : Config) (c : Cpu) (b1 b2 : Byte) :
    ∃ i, decodeSelector cfg c.select b1 b2 = some i := by
  unfold Cpu.select
  split_ifs
  · exact ⟨.reset, rfl⟩
  · exact ⟨.nmi, rfl⟩
  · exact ⟨.irq, rfl⟩
  · exact exists_decodeSelector_of_opcode cfg c.dbuf b1 b2

theorem sequenceAt_of_decodeSelector {cfg : Config} {sel : Selector} {i : Instr}
    (h : decodeSelector cfg sel 0 0 = some i) : sequenceAt cfg sel = sequenceOf cfg i := by
  rw [sequenceAt, h]

theorem ProperSequence.length_pos {us : List Micro} (h : ProperSequence us) : 0 < us.length := by
  cases h <;> exact Nat.succ_pos _

/-- In a proper sequence a micro-step that goes on is not the last one. -/
theorem ProperSequence.succ_lt_length {us : List Micro} (h : ProperSequence us) {k : Nat} {u : Micro} {c c' : Cpu}
    (hu : us[k]? = some u) (hmore : u c = .more c') : k + 1 < us.length := by
  induction h generalizing k with
  | last _ hstops =>
    obtain ⟨rfl, rfl⟩ : k = 0 ∧ _ = u := by simpa [List.getElem?_singleton] using hu
    have hstop := hstops c
    rw [hmore] at hstop
    exact hstop.elim
  | cons _ hus ih =>
    cases k with
    | zero => exact Nat.succ_lt_succ hus.length_pos
    | succ k => exact Nat.succ_lt_succ (ih hu)

/-! #### How a micro-step and a tick end -/

/-- `CYC` numbers a micro-step of the sequence that `IR` selects, or the next micro-step is a cycle 0. -/
def Cpu.InSequence (cfg : Config) (c : Cpu) : Prop :=
  c.cyc = 0 ∨ c.cyc < (sequenceAt cfg c.ir).length

theorem State.sequencerOk_iff {s : State} : s.sequencerOk = true ↔ s.cpu.InSequence s.cfg := by
  simp only [State.sequencerOk, Cpu.InSequence, Bool.or_eq_true, decide_eq_true_eq]

/-- An ADC or SBC past its cycle 0 meets `P.D` = 1. -/
def Cpu.InDecimal (cfg : Config) (c : Cpu) : Prop :=
  getFlag .d c.p = true ∧ c.cyc ≠ 0 ∧ ∃ i, decodeSelector cfg c.ir 0 0 = some i ∧ readsDecimal i = true

/-- A micro-step's end, after which the CPU is in the sequence again, or which refuses the decimal mode. -/
def MicroEnd.Proceeds (cfg : Config) (c : Cpu) : MicroEnd → Prop
  | .more c' => c'.InSequence cfg
  | .retired c' => c'.InSequence cfg
  | .refuse r => r = .decimalMode ∧ c.InDecimal cfg

/-- How a tick, or one device's part of it, ends: in a state whose CPU is in its sequence, or by that refusal. -/
inductive State.Proceeds (s : State) : Host.Outcome State Fault Refusal → Prop
  | next {t : State} (h : t.sequencerOk = true) : s.Proceeds (.next t)
  | decimal (h : s.cpu.InDecimal s.cfg) : s.Proceeds (.refused .decimalMode)

/-- The micro-step of the selected sequence that `CYC` numbers. -/
theorem microStep_proceeds {cfg : Config} {c : Cpu} (h : c.cyc < (sequenceAt cfg c.ir).length) :
    ((microStep cfg c).count c.cyc).Proceeds cfg c := by
  obtain ⟨i, hi⟩ : ∃ i, decodeSelector cfg c.ir 0 0 = some i := by
    cases hi : decodeSelector cfg c.ir 0 0 with
    | some i => exact ⟨i, rfl⟩
    | none =>
      rw [sequenceAt, hi] at h
      cases h
  have hseq := sequenceAt_of_decodeSelector hi
  obtain ⟨u, hu⟩ : ∃ u, (sequenceOf cfg i)[c.cyc]? = some u := ⟨_, List.getElem?_eq_getElem (hseq ▸ h)⟩
  have hmicro : microStep cfg c = u c := by rw [microStep, hseq, hu]
  have hpins := microStep_keepsPins cfg c
  rw [hmicro] at hpins ⊢
  cases he : u c with
  | more c' =>
    rw [he] at hpins
    have hir : c'.ir = c.ir := congrArg Pins.ir hpins
    have hnext := (sequenceOf_proper cfg i).succ_lt_length hu he
    exact .inr (by rwa [hir, hseq])
  | retired c' => exact .inl rfl
  | refuse r =>
    have hrefuses := sequenceOf_completes cfg i u (List.mem_of_getElem? hu) c
    rw [he] at hrefuses
    obtain ⟨rfl, hreads, hd⟩ := hrefuses
    refine ⟨rfl, hd, fun hzero => ?_, i, hi, hreads⟩
    rw [hzero, sequenceOf_head_of_readsDecimal cfg hreads] at hu
    cases hu
    cases he

/-- E6 on a CPU in its sequence: dispatch makes one where `CYC` = 0 (R153). -/
theorem Cpu.risingEdge_proceeds {cfg : Config} {c : Cpu} (h : c.InSequence cfg) (sample : Byte) :
    (c.risingEdge cfg sample).Proceeds cfg c := by
  unfold Cpu.risingEdge
  dsimp only
  split
  case isTrue hzero =>
    obtain ⟨i, hi⟩ := exists_decodeSelector_select cfg { c with dbuf := sample } 0 0
    have hlt : c.cyc < (sequenceAt cfg (Cpu.select { c with dbuf := sample })).length := by
      rw [sequenceAt_of_decodeSelector hi, hzero]
      exact (sequenceOf_proper cfg i).length_pos
    have hproceeds := microStep_proceeds (c := Cpu.dispatch { c with dbuf := sample }) hlt
    generalize (microStep cfg _).count _ = e at hproceeds ⊢
    cases e with
    | more c' => exact hproceeds
    | retired c' => exact hproceeds
    | refuse r =>
      obtain ⟨-, -, hpos, -⟩ := hproceeds
      exact absurd hzero hpos
  case isFalse hpos => exact microStep_proceeds (c := { c with dbuf := sample }) (h.resolve_left hpos)

/-! #### The parts of a tick (R70, R150) -/

/-- The CPU's `evaluate()`. -/
theorem State.evaluateCpu_proceeds {s : State} (h : s.sequencerOk = true) : s.Proceeds s.evaluateCpu := by
  have hrise := Cpu.risingEdge_proceeds (c := s.latchLines.cpu) (State.sequencerOk_iff.mp h)
    (BitVec.ofNat 8 (s.latchLines.buses.get s.latchLines.cfg.ports.data).last)
  unfold State.evaluateCpu
  dsimp only
  split
  · exact .next h
  split
  · split
    case h_1 he => rw [he] at hrise; exact .next (State.sequencerOk_iff.mpr hrise)
    case h_2 he => rw [he] at hrise; exact .next (State.sequencerOk_iff.mpr hrise)
    case h_3 he =>
      rw [he] at hrise
      obtain ⟨rfl, hdecimal⟩ := hrise
      exact .decimal hdecimal
  · exact .next h

/-- From states with the same CPU and the same parameters. -/
theorem State.Proceeds.congr {s t : State} {o : Host.Outcome State Fault Refusal} (h : t.Proceeds o)
    (hcpu : t.cpu = s.cpu) (hcfg : t.cfg = s.cfg) : s.Proceeds o := by
  cases h with
  | next h => exact .next h
  | decimal h => rw [hcpu, hcfg] at h; exact .decimal h

theorem State.sequencerOk_congr {s t : State} (hcpu : t.cpu = s.cpu) (hcfg : t.cfg = s.cfg) :
    t.sequencerOk = s.sequencerOk := by
  rw [State.sequencerOk, hcpu, hcfg, State.sequencerOk]

/-- A memory device's `evaluate()` touches neither the CPU nor the parameters. -/
theorem State.evaluateMem_keeps (k : Nat) (s : State) : (s.evaluateMem k).cpu = s.cpu ∧ (s.evaluateMem k).cfg = s.cfg := by
  unfold State.evaluateMem
  split <;> exact ⟨rfl, rfl⟩

/-- T4 among memory devices alone. -/
theorem State.evaluateAll_of_cpu_notMem {order : List DeviceId} (hmems : .cpu ∉ order) (s : State) :
    ∃ t, s.evaluateAll order = .next t ∧ t.cpu = s.cpu ∧ t.cfg = s.cfg := by
  induction order generalizing s with
  | nil => exact ⟨s, rfl, rfl, rfl⟩
  | cons id order ih =>
    obtain ⟨hid, htail⟩ := List.ne_and_not_mem_of_not_mem_cons hmems
    cases id with
    | cpu => exact absurd rfl hid
    | mem k =>
      obtain ⟨hcpu, hcfg⟩ := s.evaluateMem_keeps k
      obtain ⟨t, ht, hcpu', hcfg'⟩ := ih htail (s.evaluateMem k)
      exact ⟨t, ht, hcpu'.trans hcpu, hcfg'.trans hcfg⟩

/-- T4 in an order that has the CPU once (R70): memory devices, the CPU, memory devices. -/
theorem State.evaluateAll_proceeds {order : List DeviceId} (hcpu : order.count .cpu = 1) {s : State}
    (h : s.sequencerOk = true) : s.Proceeds (s.evaluateAll order) := by
  induction order generalizing s with
  | nil => cases hcpu
  | cons id order ih =>
    cases id with
    | cpu =>
      have hmems : DeviceId.cpu ∉ order := List.count_eq_zero.mp (by simpa using hcpu)
      have hproceeds := State.evaluateCpu_proceeds h
      rw [State.evaluateAll, State.evaluate]
      generalize s.evaluateCpu = o at hproceeds ⊢
      cases hproceeds with
      | @next u hu =>
        obtain ⟨t, ht, hcpu, hcfg⟩ := State.evaluateAll_of_cpu_notMem hmems u
        rw [andThen, ht]
        exact .next ((State.sequencerOk_congr hcpu hcfg).trans hu)
      | decimal hdecimal => exact .decimal hdecimal
    | mem k =>
      obtain ⟨hkeep, hcfg⟩ := s.evaluateMem_keeps k
      have hrest := ih (by simpa using hcpu) ((State.sequencerOk_congr hkeep hcfg).trans h)
      exact hrest.congr hkeep hcfg

/-- An allowed evaluation order has the CPU once. -/
theorem State.count_cpu_evalOrder {s : State} (h : s.evalOrderOk = true) : s.cfg.evalOrder.count .cpu = 1 := by
  rw [(Config.evalOrderOk_perm h).count_eq, List.count_cons_self, List.count_eq_zero.mpr (by simp)]

theorem State.tick_proceeds {s : State} (horder : s.evalOrderOk = true) (h : s.sequencerOk = true) :
    s.Proceeds s.tick :=
  (State.evaluateAll_proceeds (s := s.startTick) (State.count_cpu_evalOrder horder) h).congr rfl rfl

/-! #### Steps (R179; U7, U18) -/

/-- At the instruction level there is an instruction to run. -/
theorem State.exists_selected (s : State) : ∃ i, s.cycleZero.selected = some i :=
  exists_decodeSelector_select _ s.clockCycle.cpu _ _

/-- The instruction level is one of systems that are not refused. -/
theorem State.allowed_of_instructionLevel {s : State} (h : s.instructionLevel = true) :
    s.evalOrderOk = true ∧ s.mems.all MemDevice.widthOk = true := by
  simp only [State.instructionLevel, Bool.and_eq_true] at h
  obtain ⟨-, -, hplatform, -⟩ := h
  obtain ⟨-, horder, -, hwired⟩ := State.platformOk_iff.mp hplatform
  refine ⟨horder, List.all_eq_true.mpr fun d hd => ?_⟩
  obtain ⟨hsize, -⟩ := MemDevice.wiredOk_iff.mp (hwired d hd)
  rw [MemDevice.sizeOk, Bool.and_eq_true] at hsize
  exact hsize.2

/-- From any other state a step is a tick, on systems that are not refused. -/
theorem step_eq_checkedTick {s : State} (h : s.instructionLevel = false) : step s = s.checkedTick :=
  if_neg (Bool.eq_false_iff.mp h)

end Sys2Proof.Machine

open Sys2Proof Sys2Proof.Machine

/-- Settles O4: an instruction stops for `P.D` = 1 alone (`exec_cases`), and so does a tick (`State.tick_proceeds`); a system
that is refused has no instruction level (`State.allowed_of_instructionLevel`). -/
theorem machineStopsOnlyInDecimalMode : Obligations.MachineStopsOnlyInDecimalMode := by
  refine ⟨fun s hinv => ?_, fun s hlevel horder hwidth => ?_, fun s horder hseq => ?_, fun s horder => ?_,
    fun s horder hwidth => ?_⟩
  · obtain ⟨hlevel, -⟩ := State.ready_of_inv hinv
    obtain ⟨i, hsel⟩ := s.exists_selected
    rw [Continues, step_of_selected hlevel hsel]
    refine (exec_cases i s.cycleZero).imp_right fun ⟨hrefused, hreads, hd⟩ => ⟨hrefused, ?_, i, hsel, hreads⟩
    rwa [show s.cycleZero.cpu.p = s.cpu.p from s.clockCycle_p] at hd
  · rw [step_eq_checkedTick hlevel, State.checkedTick, if_pos horder, if_pos hwidth]
  · have hproceeds := State.tick_proceeds horder hseq
    generalize s.tick = o at hproceeds ⊢
    cases hproceeds with
    | next ht => exact .inl ⟨_, rfl, ht⟩
    | decimal h => exact .inr ⟨rfl, h⟩
  · have hlevel : s.instructionLevel = false :=
      Bool.eq_false_iff.mpr fun h => by
        obtain ⟨hallowed, -⟩ := State.allowed_of_instructionLevel h
        rw [hallowed] at horder
        cases horder
    rw [step_eq_checkedTick hlevel, State.checkedTick, if_neg (Bool.eq_false_iff.mp horder)]
  · have hlevel : s.instructionLevel = false :=
      Bool.eq_false_iff.mpr fun h => by
        obtain ⟨-, hallowed⟩ := State.allowed_of_instructionLevel h
        rw [hallowed] at hwidth
        cases hwidth
    rw [step_eq_checkedTick hlevel, State.checkedTick, if_pos horder, if_neg (Bool.eq_false_iff.mp hwidth)]
end

section
/-! ### Classes M and I2: shifts, increments, decrements (R173, R174, R250 to R259) -/

namespace Sys2Proof.Machine

/-- The byte at the effective address is the operand byte (41_load_store.md). -/
theorem Operand.value_of_address {o : Operand} {s : State} {ea : Word} (h : o.address s = some ea) :
    o.value s = s.peek ea := by
  cases o <;> cases h <;> rfl

/-- Class M on memory (R173), which has no immediate form. -/
def modifyTemplate (f : ModifyOp) (o : Operand) : Option (List Micro) :=
  o.mode.map fun m => seqModify m f

/-- The four shifts as one operation: the byte and the carry before it to the new byte and the carry out (R250 to R253). -/
def opShift (sh : Byte → Bool → ShiftResult) : ModifyOp := fun v c =>
  ((sh v (c.flag .c)).r, c.setShift (sh v (c.flag .c)))

theorem opAsl_eq_opShift : opAsl = opShift fun v _ => asl8 v := rfl

theorem opLsr_eq_opShift : opLsr = opShift fun v _ => lsr8 v := rfl

theorem opRol_eq_opShift : opRol = opShift rol8 := rfl

theorem opRor_eq_opShift : opRor = opShift ror8 := rfl

/-! #### The shifts as numbers -/

/-- ASL doubles (R250). -/
theorem asl8_eq (v : Byte) : asl8 v = ⟨BitVec.ofNat 8 (2 * v.toNat), v.getLsbD 7⟩ := by
  have hr : v <<< 1 = BitVec.ofNat 8 (2 * v.toNat) := BitVec.eq_of_toNat_eq (by simp [Nat.shiftLeft_eq, Nat.mul_comm])
  rw [asl8, hr]

/-- LSR halves (R251). -/
theorem lsr8_eq (v : Byte) : lsr8 v = ⟨BitVec.ofNat 8 (v.toNat / 2), v.getLsbD 0⟩ := by
  have hr : v >>> 1 = BitVec.ofNat 8 (v.toNat / 2) :=
    BitVec.eq_of_toNat_eq (by simp [Nat.shiftRight_eq_div_pow]; omega)
  rw [lsr8, hr]

/-- ROL doubles and adds the carry, which lands in the bit that doubling clears (R252). -/
theorem rol8_eq (v : Byte) (cin : Bool) : rol8 v cin = ⟨BitVec.ofNat 8 (2 * v.toNat + cin.toNat), v.getLsbD 7⟩ := by
  have hcin := cin.toNat_lt
  have hor := Nat.two_pow_add_eq_or_of_lt (i := 1) hcin (v.toNat % 128)
  have hdouble : v.toNat <<< 1 % 2 ^ 8 = 2 ^ 1 * (v.toNat % 128) := by omega
  have hr : v <<< 1 ||| (BitVec.ofBool cin).setWidth 8 = BitVec.ofNat 8 (2 * v.toNat + cin.toNat) := by
    apply BitVec.eq_of_toNat_eq
    rw [BitVec.toNat_or, BitVec.toNat_shiftLeft, BitVec.toNat_setWidth, BitVec.toNat_ofBool, BitVec.toNat_ofNat, hdouble,
      Nat.mod_eq_of_lt (by omega : cin.toNat < 2 ^ 8), ← hor]
    omega
  rw [rol8, hr]

/-- ROR halves and adds the carry at bit 7, which halving clears (R253). -/
theorem ror8_eq (v : Byte) (cin : Bool) :
    ror8 v cin = ⟨BitVec.ofNat 8 (v.toNat / 2 + 0x80 * cin.toNat), v.getLsbD 0⟩ := by
  have hcin := cin.toNat_lt
  have hor := Nat.two_pow_add_eq_or_of_lt (i := 7) (b := v.toNat / 2) (by omega) cin.toNat
  have hhalf : v.toNat >>> 1 = v.toNat / 2 := by omega
  have htop : (cin.toNat % 2 ^ 8) <<< 7 % 2 ^ 8 = 2 ^ 7 * cin.toNat := by omega
  have hr : v >>> 1 ||| (BitVec.ofBool cin).setWidth 8 <<< 7 = BitVec.ofNat 8 (v.toNat / 2 + 0x80 * cin.toNat) := by
    apply BitVec.eq_of_toNat_eq
    rw [BitVec.toNat_or, BitVec.toNat_ushiftRight, BitVec.toNat_shiftLeft, BitVec.toNat_setWidth, BitVec.toNat_ofBool,
      BitVec.toNat_ofNat, hhalf, htop, Nat.or_comm, ← hor]
    omega
  rw [ror8, hr]

/-! #### The forms of each mnemonic -/

section Forms
variable (b1 b2 : Byte)

theorem formsAsl_run : ∀ f ∈ formsAsl b1 b2, f.Runs b1 b2 (modifyTemplate opAsl) :=
  forall_mem_runs rfl (fun _ => rfl) fun _ => rfl

theorem formsLsr_run : ∀ f ∈ formsLsr b1 b2, f.Runs b1 b2 (modifyTemplate opLsr) :=
  forall_mem_runs rfl (fun _ => rfl) fun _ => rfl

theorem formsRol_run : ∀ f ∈ formsRol b1 b2, f.Runs b1 b2 (modifyTemplate opRol) :=
  forall_mem_runs rfl (fun _ => rfl) fun _ => rfl

theorem formsRor_run : ∀ f ∈ formsRor b1 b2, f.Runs b1 b2 (modifyTemplate opRor) :=
  forall_mem_runs rfl (fun _ => rfl) fun _ => rfl

theorem formsInc_run : ∀ f ∈ formsInc b1 b2, f.Runs b1 b2 (modifyTemplate opInc) :=
  forall_mem_runs rfl (fun _ => rfl) fun _ => rfl

theorem formsDec_run : ∀ f ∈ formsDec b1 b2, f.Runs b1 b2 (modifyTemplate opDec) :=
  forall_mem_runs rfl (fun _ => rfl) fun _ => rfl

end Forms

/-! #### A memory form as a whole -/

section Runs
variable {f : Form} {b1 b2 : Byte} {s : State}

/-- A class M form: `r` is the byte written, `p` the status byte left, when the operation depends on its operand and the
status byte alone. -/
theorem Form.Runs.exec_modify {op : ModifyOp} (h : f.Runs b1 b2 (modifyTemplate op)) {r p : Byte}
    (hop : ∀ c : Cpu, c.p = s.cpu.p → op (f.operand.value s) c = (r, { c with p := p })) :
    let v := f.operand.value s
    ∃ t ea, f.operand.address s = some ea ∧ exec f.instr s = .next t ∧
      Retires s t (f.operand.cycles + 2) { s.regs with p := p, pc := s.cpu.pc + f.operand.length } ∧
      Stores s t [(ea, r)] ∧
      transactions f.instr s = f.operand.addressReads s ++ [busRead ea v, busRead ea v, busWrite ea r] := by
  obtain ⟨m, hmode, hseq⟩ := Option.map_eq_some_iff.mp (h.sequence s.cfg).symm
  obtain ⟨t, ea, hea, hrun, hret, hst, hbus⟩ := run_modify (f := op) (s := s) (v := r)
    (r := { s.regs with p := p, pc := s.cpu.pc + f.operand.length }) hmode fun c hc => by
      rw [hop c (congrArg Regs.p hc)]
      exact ⟨rfl, congrArg (fun regs : Regs => { regs with p := p }) hc, rfl⟩
  rw [exec_eq_run, transactions, h.operandBytes, ← hseq, Operand.value_of_address hea]
  exact ⟨t, ea, hea, hrun, hret, hst, hbus⟩

/-- A memory form of a shift: `e` is the new byte and the carry out (R250 to R253). -/
theorem Form.Runs.exec_shift {sh : Byte → Bool → ShiftResult} (h : f.Runs b1 b2 (modifyTemplate (opShift sh)))
    {e : Byte × Bool} (hsh : sh (f.operand.value s) (getFlag .c s.cpu.p) = ⟨e.1, e.2⟩) :
    let v := f.operand.value s
    ∃ t ea, f.operand.address s = some ea ∧ exec f.instr s = .next t ∧
      Retires s t (f.operand.cycles + 2)
        { s.regs with
          p := withFlags [(.c, e.2), (.z, decide (e.1 = 0#8)), (.n, e.1.getLsbD 7)] s.cpu.p
          pc := s.cpu.pc + f.operand.length } ∧
      Stores s t [(ea, e.1)] ∧
      transactions f.instr s = f.operand.addressReads s ++ [busRead ea v, busRead ea v, busWrite ea e.1] :=
  h.exec_modify fun c hp => by
    rw [opShift, Cpu.flag, hp, hsh, ← hp]
    rfl

end Runs

/-! #### A two-cycle instruction as a whole -/

section Implied
variable {i : Instr} {s : State}

/-- A class I2 instruction: `g` is what its action does to the registers (R174, R178). -/
theorem exec_implied {act : Cpu → Cpu} (hseq : sequenceOf s.cfg i = seqImplied act) (hbytes : operandBytesOf i s = [])
    (g : Regs → Regs)
    (hact : ∀ c : Cpu, c.regs = { s.regs with pc := s.cpu.pc + 1 } → (act c).regs = g c.regs ∧ (act c).ir = c.ir) :
    ∃ t, exec i s = .next t ∧ Retires s t 2 (g { s.regs with pc := s.cpu.pc + 1 }) ∧ KeepsMemory s t ∧
      transactions i s = [s.discardedRead] := by
  rw [exec_eq_run, transactions, hseq, hbytes]
  exact run_implied [] fun c hc => hc ▸ hact c hc

/-- A shift of the accumulator: `e` is the new byte and the carry out (R250 to R253). -/
theorem exec_shift_accumulator {sh : Byte → Bool → ShiftResult}
    (hseq : sequenceOf s.cfg i = seqAccumulator (opShift sh)) (hbytes : operandBytesOf i s = [])
    {e : Byte × Bool} (hsh : sh s.cpu.a (getFlag .c s.cpu.p) = ⟨e.1, e.2⟩) :
    ∃ t, exec i s = .next t ∧
      Retires s t 2
        { s.regs with
          a := e.1
          p := withFlags [(.c, e.2), (.z, decide (e.1 = 0#8)), (.n, e.1.getLsbD 7)] s.cpu.p
          pc := s.cpu.pc + 1 } ∧
      KeepsMemory s t ∧ transactions i s = [s.discardedRead] := by
  refine exec_implied hseq hbytes
    (fun r => { r with a := e.1, p := withFlags [(.c, e.2), (.z, decide (e.1 = 0#8)), (.n, e.1.getLsbD 7)] r.p })
    fun c hc => ?_
  have ha : c.a = s.cpu.a := congrArg Regs.a hc
  have hp : c.p = s.cpu.p := congrArg Regs.p hc
  have hop : opShift sh c.a c = (e.1, c.setShift ⟨e.1, e.2⟩) := by rw [opShift, Cpu.flag, ha, hp, hsh]
  rw [hop]
  exact ⟨rfl, rfl⟩

end Implied

end Sys2Proof.Machine

open Sys2Proof Sys2Proof.Machine

/-- Settles O18: each memory form is of class M (`formsAsl_run` and its like), each accumulator form of two cycles, with the
shift in closed form (`asl8_eq`, `lsr8_eq`, `rol8_eq`, `ror8_eq`). -/
theorem shiftsMoveOneBit : Obligations.ShiftsMoveOneBit := by
  intro s b1 b2 cin asl lsr rol ror flags
  refine ⟨List.forall_mem_cons.mpr ⟨fun f hf => ?_, List.forall_mem_cons.mpr ⟨fun f hf => ?_,
      List.forall_mem_cons.mpr ⟨fun f hf => ?_, List.forall_mem_singleton.mpr fun f hf => ?_⟩⟩⟩,
    List.forall_mem_cons.mpr ⟨?_, List.forall_mem_cons.mpr ⟨?_,
      List.forall_mem_cons.mpr ⟨?_, List.forall_mem_singleton.mpr ?_⟩⟩⟩⟩
  · have hruns := opAsl_eq_opShift ▸ formsAsl_run b1 b2 f hf
    exact ⟨hruns.decode, hruns.exec_shift (asl8_eq _)⟩
  · have hruns := opLsr_eq_opShift ▸ formsLsr_run b1 b2 f hf
    exact ⟨hruns.decode, hruns.exec_shift (lsr8_eq _)⟩
  · have hruns := opRol_eq_opShift ▸ formsRol_run b1 b2 f hf
    exact ⟨hruns.decode, hruns.exec_shift (rol8_eq _ _)⟩
  · have hruns := opRor_eq_opShift ▸ formsRor_run b1 b2 f hf
    exact ⟨hruns.decode, hruns.exec_shift (ror8_eq _ _)⟩
  · exact ⟨decodeOpcode_of_encode (n := 0) rfl, exec_shift_accumulator (sh := fun v _ => asl8 v) rfl rfl (asl8_eq _)⟩
  · exact ⟨decodeOpcode_of_encode (n := 0) rfl, exec_shift_accumulator (sh := fun v _ => lsr8 v) rfl rfl (lsr8_eq _)⟩
  · exact ⟨decodeOpcode_of_encode (n := 0) rfl, exec_shift_accumulator rfl rfl (rol8_eq _ _)⟩
  · exact ⟨decodeOpcode_of_encode (n := 0) rfl, exec_shift_accumulator rfl rfl (ror8_eq _ _)⟩

/-- Settles O19: each form is of class M (`formsInc_run`, `formsDec_run`) with an operation that sets Z and N alone. -/
theorem incDecModifyMemory : Obligations.IncDecModifyMemory := by
  intro s b1 b2
  refine List.forall_mem_cons.mpr ⟨fun f hf => ?_, List.forall_mem_singleton.mpr fun f hf => ?_⟩
  · have hruns := formsInc_run b1 b2 f hf
    exact ⟨hruns.decode, hruns.exec_modify fun _ hp => hp ▸ rfl⟩
  · have hruns := formsDec_run b1 b2 f hf
    exact ⟨hruns.decode, hruns.exec_modify fun _ hp => hp ▸ rfl⟩

/-- Settles O20: each is a two-cycle instruction (`exec_implied`) with an action on its register, Z and N. -/
theorem indexIncDec : Obligations.IndexIncDec := by
  intro s b1 b2
  refine List.forall_mem_cons.mpr ⟨⟨decodeOpcode_of_encode (n := 0) rfl, ?_⟩,
    List.forall_mem_cons.mpr ⟨⟨decodeOpcode_of_encode (n := 0) rfl, ?_⟩,
    List.forall_mem_cons.mpr ⟨⟨decodeOpcode_of_encode (n := 0) rfl, ?_⟩,
    List.forall_mem_singleton.mpr ⟨decodeOpcode_of_encode (n := 0) rfl, ?_⟩⟩⟩⟩
  · exact exec_implied (act := actInx) rfl rfl (fun r => { r with x := r.x + 1, p := withNZ (r.x + 1) r.p })
      fun _ _ => ⟨rfl, rfl⟩
  · exact exec_implied (act := actIny) rfl rfl (fun r => { r with y := r.y + 1, p := withNZ (r.y + 1) r.p })
      fun _ _ => ⟨rfl, rfl⟩
  · exact exec_implied (act := actDex) rfl rfl (fun r => { r with x := r.x - 1, p := withNZ (r.x - 1) r.p })
      fun _ _ => ⟨rfl, rfl⟩
  · exact exec_implied (act := actDey) rfl rfl (fun r => { r with y := r.y - 1, p := withNZ (r.y - 1) r.p })
      fun _ _ => ⟨rfl, rfl⟩
end

section
/-! ### Control transfer (R270 to R283) -/

namespace Sys2Proof.Machine

/-! #### Words and their bytes; addresses of the stack page -/

theorem word_hiByte_loByte (w : Word) : word (hiByte w) (loByte w) = w :=
  BitVec.extractLsb'_append_extractLsb' (w := 8) (len := 8)

/-- A branch's target as an integer, reduced modulo 2^16 (R26, R270). -/
theorem branchTarget_eq (pc : Word) (b : Byte) : pc + 2 + sext16 b = BitVec.ofInt 16 (pc.toNat + 2 + b.toInt) := by
  rw [BitVec.ofInt_add, BitVec.ofInt_add, BitVec.ofInt_natCast, BitVec.ofNat_toNat, BitVec.setWidth_eq]
  rfl

/-- In an aligned stack page the low byte of a stack address is the stack pointer (R103). -/
theorem setWidth_stackAddr {cfg : Config} (h : cfg.stackPageOk = true) (sp : Byte) :
    (stackAddr cfg sp).setWidth 8 = sp := by
  have hbase : cfg.stackBase.setWidth 8 = 0#8 := of_decide_eq_true h
  rw [stackAddr, zext16, BitVec.setWidth_or, hbase, BitVec.zero_or, BitVec.setWidth_setWidth_of_le _ (by decide),
    BitVec.setWidth_eq]

theorem stackAddr_injective {cfg : Config} (h : cfg.stackPageOk = true) : Function.Injective (stackAddr cfg) :=
  Function.LeftInverse.injective (setWidth_stackAddr h)

/-! #### A branch as a whole -/

/-- A conditional branch (R270): `f` is the flag it reads and `on` the value at which it is taken. -/
theorem exec_branch {s : State} {i : Instr} {op b1 b2 : Byte} {f : Flag} {on : Bool} (cond : Cpu → Bool)
    (hcond : ∀ c : Cpu, cond c = true ↔ getFlag f c.p = on) (hencode : encode i = [op, b1])
    (hseq : sequenceOf s.cfg i = seqBranch cond) (hbytes : operandBytesOf i s = [some b1]) :
    decodeOpcode op b1 b2 = i ∧
      ∃ t, exec i s = .next t ∧ KeepsMemory s t ∧
        (getFlag f s.cpu.p = on →
          Retires s t 3 { s.regs with pc := BitVec.ofInt 16 (s.cpu.pc.toNat + 2 + b1.toInt) } ∧
          transactions i s = [busRead (s.cpu.pc + 1) b1, s.discardedRead]) ∧
        (getFlag f s.cpu.p ≠ on →
          Retires s t 2 { s.regs with pc := s.cpu.pc + 2 } ∧ transactions i s = [busRead (s.cpu.pc + 1) b1]) := by
  have hp (c : Cpu) (hc : c.p = s.cpu.p) : cond c = cond s.cpu := by
    rw [Bool.eq_iff_iff, hcond, hcond, hc]
  obtain ⟨t, hrun, hret, hkeep, hbus⟩ := run_branch b1 hp
  rw [exec_eq_run, transactions, hseq, hbytes]
  refine ⟨decodeOpcode_of_encode (n := 1) hencode, t, hrun, hkeep, fun htaken => ?_, fun hpassed => ?_⟩
  · simp only [(hcond s.cpu).mpr htaken, if_true, branchTarget_eq] at hret hbus
    exact ⟨hret, hbus⟩
  · simp only [mt (hcond s.cpu).mp hpassed] at hret hbus
    exact ⟨hret, hbus⟩

/-! #### The third byte of JSR -/

/-- The byte that JSR's last cycle reads (R281). -/
theorem State.jsrThirdByte_getD (b2 : Byte) (s : State) :
    (s.jsrThirdByte b2).getD (s.afterJsrPushes.peek (s.cpu.pc + 2)) =
      if s.afterJsrPushes.peek (s.cpu.pc + 2) = s.peek (s.cpu.pc + 2) then b2
      else s.afterJsrPushes.peek (s.cpu.pc + 2) :=
  apply_ite (Option.getD · _) _ _ _

/-! #### The return address on the stack -/

/-- On a plain RAM with an aligned stack page a word pushed from `sp`, high byte first, is the word pulled at `sp - 2`: the
two addresses differ, wherever `sp` wraps (R281, R282). -/
theorem Stores.peek_pushed_word {s t : State} {sp : Byte} {w : Word} (hram : s.plainRam = true)
    (hpage : s.cfg.stackPageOk = true)
    (h : Stores s t [(stackAddr s.cfg sp, hiByte w), (stackAddr s.cfg (sp - 1), loByte w)]) :
    word (t.peek (stackAddr s.cfg sp)) (t.peek (stackAddr s.cfg (sp - 1))) = w := by
  obtain ⟨-, hpeek, -⟩ := h
  have hne : stackAddr s.cfg sp ≠ stackAddr s.cfg (sp - 1) := (stackAddr_injective hpage).ne (by bv_omega)
  have hread (a : Word) : t.peek a =
      if a = stackAddr s.cfg (sp - 1) then loByte w else if a = stackAddr s.cfg sp then hiByte w else s.peek a := by
    rw [← State.peek_poke_plain hram, ← State.peek_poke_plain (State.plainRam_poke hram _ _)]
    exact hpeek a
  rw [hread, if_neg hne, if_pos rfl, hread, if_pos rfl, word_hiByte_loByte]

end Sys2Proof.Machine

open Sys2Proof Sys2Proof.Machine

/-- Settles O24: each is a branch (`exec_branch`) on its flag. -/
theorem branchesFollowTheirFlag : Obligations.BranchesFollowTheirFlag := by
  intro s b1 b2
  have hset (f : Flag) (c : Cpu) : c.flag f = true ↔ getFlag f c.p = true := Iff.rfl
  have hclear (f : Flag) (c : Cpu) : (!c.flag f) = true ↔ getFlag f c.p = false := by rw [Bool.not_eq_true']; rfl
  simp only [List.forall_mem_cons]
  exact ⟨exec_branch condBpl (hclear .n) rfl rfl rfl, exec_branch condBmi (hset .n) rfl rfl rfl,
    exec_branch condBvc (hclear .v) rfl rfl rfl, exec_branch condBvs (hset .v) rfl rfl rfl,
    exec_branch condBcc (hclear .c) rfl rfl rfl, exec_branch condBcs (hset .c) rfl rfl rfl,
    exec_branch condBne (hclear .z) rfl rfl rfl, exec_branch condBeq (hset .z) rfl rfl rfl, List.forall_mem_nil _⟩

/-- Settles O25: what the two sequences do as a whole (`run_jmpAbs`, `run_jmpInd`). -/
theorem jumpsLoadPc : Obligations.JumpsLoadPc := fun s b1 b2 =>
  ⟨⟨decodeOpcode_of_encode (n := 2) rfl, run_jmpAbs b1 b2 s⟩, decodeOpcode_of_encode (n := 2) rfl, run_jmpInd b1 b2 s⟩

/-- Settles O26: what the sequence does as a whole (`run_jsr`), with the byte its last cycle reads
(`State.jsrThirdByte_getD`). -/
theorem jsrPushesReturnAddress : Obligations.JsrPushesReturnAddress := by
  intro s b1 b2
  have hrun := run_jsr b1 b2 s
  rw [s.jsrThirdByte_getD b2] at hrun
  exact ⟨decodeOpcode_of_encode (n := 2) rfl, hrun⟩

/-- Settles O27: what the sequence does as a whole (`run_rts`). -/
theorem rtsPullsReturnAddress : Obligations.RtsPullsReturnAddress := fun s _ _ =>
  ⟨decodeOpcode_of_encode (n := 0) rfl, run_rts s⟩

/-- Settles O35: RTS (`run_rts`) pulls the word that JSR pushed (`run_jsr`, `Stores.peek_pushed_word`), the address of the
JSR's last byte. -/
theorem returnUndoesCall : Obligations.ReturnUndoesCall := by
  intro s t b1 b2 hram hpage hjsr
  obtain ⟨t', hrun, ⟨hregs, -, -, -, -, -, hcfg, -⟩, hstores, -⟩ := run_jsr b1 b2 s
  obtain rfl : t = t' := Host.Outcome.next.inj (hjsr.symm.trans hrun)
  obtain ⟨u, hrts, ⟨hu, -⟩, hkeep, -⟩ := run_rts t
  have hsp : t.cpu.sp = s.cpu.sp - 2 := congrArg Regs.sp hregs
  have hlow : s.cpu.sp - 2 + 1 = s.cpu.sp - 1 := by bv_omega
  have hpc : s.cpu.pc + 2 + 1 = s.cpu.pc + 3 := by bv_omega
  refine ⟨u, hrts, ?_, hkeep⟩
  rw [hu, hregs, hcfg, hsp, BitVec.sub_add_cancel, hlow, hstores.peek_pushed_word hram hpage, hpc]
  rfl
end

section
/-! ### Stack, flag and transfer instructions, no operation and the placeholder (R300 to R317, R342) -/

namespace Sys2Proof.Machine

section Whole
variable {s : State} {i : Instr} {op b1 b2 : Byte}

/-- A two-cycle instruction with its opcode (R174): `g` is what its action does to the registers, whatever they hold. -/
theorem exec_register_action {act : Cpu → Cpu} (hencode : encode i = [op]) (hseq : sequenceOf s.cfg i = seqImplied act)
    (hbytes : operandBytesOf i s = []) (g : Regs → Regs) (hact : ∀ c, (act c).regs = g c.regs ∧ (act c).ir = c.ir) :
    decodeOpcode op b1 b2 = i ∧
      ∃ t, exec i s = .next t ∧ Retires s t 2 (g { s.regs with pc := s.cpu.pc + 1 }) ∧ KeepsMemory s t ∧
        transactions i s = [s.discardedRead] :=
  ⟨decodeOpcode_of_encode (n := 0) hencode, exec_implied hseq hbytes g fun c _ => hact c⟩

/-- An instruction that writes one flag (R304 to R310). -/
theorem exec_set_flag {f : Flag} {v : Bool} (hencode : encode i = [op])
    (hseq : sequenceOf s.cfg i = seqImplied fun c => c.setFlag f v) (hbytes : operandBytesOf i s = []) :
    decodeOpcode op b1 b2 = i ∧
      ∃ t, exec i s = .next t ∧
        Retires s t 2 { s.regs with p := withFlags [(f, v)] s.cpu.p, pc := s.cpu.pc + 1 } ∧
        KeepsMemory s t ∧ transactions i s = [s.discardedRead] :=
  exec_register_action hencode hseq hbytes (fun r => { r with p := withFlags [(f, v)] r.p }) fun _ => ⟨rfl, rfl⟩

/-- A push (R300, R301): `v` is the byte pushed, which does not depend on `PC`. -/
theorem exec_push {v : Cpu → Byte} (hencode : encode i = [op]) (hseq : sequenceOf s.cfg i = seqPush s.cfg v)
    (hbytes : operandBytesOf i s = [])
    (hv : ∀ c : Cpu, c.regs = { s.regs with pc := s.cpu.pc + 1 } → v c = v s.cpu) :
    decodeOpcode op b1 b2 = i ∧
      ∃ t, exec i s = .next t ∧ Retires s t 3 { s.regs with sp := s.cpu.sp - 1, pc := s.cpu.pc + 1 } ∧
        Stores s t [(stackAddr s.cfg s.cpu.sp, v s.cpu)] ∧
        transactions i s = [s.discardedRead, busWrite (stackAddr s.cfg s.cpu.sp) (v s.cpu)] := by
  rw [exec_eq_run, transactions, hseq, hbytes]
  exact ⟨decodeOpcode_of_encode (n := 0) hencode, run_push [] rfl hv⟩

/-- A pull (R302, R303): `g` is what taking the pulled byte does to the registers. -/
theorem exec_pull {take : Byte → Cpu → Cpu} (hencode : encode i = [op]) (hseq : sequenceOf s.cfg i = seqPull s.cfg take)
    (hbytes : operandBytesOf i s = []) (g : Byte → Regs → Regs)
    (htake : ∀ v c, (take v c).regs = g v c.regs ∧ (take v c).ir = c.ir) :
    let v := s.peek (stackAddr s.cfg (s.cpu.sp + 1))
    decodeOpcode op b1 b2 = i ∧
      ∃ t, exec i s = .next t ∧ Retires s t 4 (g v { s.regs with sp := s.cpu.sp + 1, pc := s.cpu.pc + 1 }) ∧
        KeepsMemory s t ∧
        transactions i s = [s.discardedRead, s.discardedRead, busRead (stackAddr s.cfg (s.cpu.sp + 1)) v] := by
  rw [exec_eq_run, transactions, hseq, hbytes]
  exact ⟨decodeOpcode_of_encode (n := 0) hencode, run_pull [] rfl rfl fun c hc => hc ▸ htake _ c⟩

/-- A placeholder retires in its dispatch, so only `PC` and the staged opcode fetch differ after it (R342). -/
theorem exec_unmapped_eq (hseq : sequenceOf s.cfg i = seqUnmapped) :
    exec i s = .next (s.withCpu { s.cpu.incPc.retire with cyc := 0 }) := by
  rw [exec_eq_run, hseq]
  exact runFrom_retired (c := s.cpu.incPc.retire) rfl

/-- A placeholder as a whole (R342). -/
theorem exec_unmapped (hseq : sequenceOf s.cfg i = seqUnmapped) (hbytes : operandBytesOf i s = []) :
    ∃ t, exec i s = .next t ∧ Retires s t 1 { s.regs with pc := s.cpu.pc + 1 } ∧ KeepsMemory s t ∧
      transactions i s = [] ∧ t.cpu.resPend = s.cpu.resPend ∧ t.cpu.nmiPend = s.cpu.nmiPend ∧
      t.cpu.irqPend = s.cpu.irqPend ∧ t.cpu.lastClk = s.cpu.lastClk ∧ t.cpu.lastNmi = s.cpu.lastNmi ∧
      t.buses = s.buses := by
  obtain ⟨t, hrun, hret, hkeep, hbus⟩ := run_unmapped s []
  rw [← hseq, ← hbytes, ← exec_eq_run, exec_unmapped_eq hseq] at hrun
  obtain rfl := Host.Outcome.next.inj hrun
  refine ⟨_, exec_unmapped_eq hseq, hret, hkeep, ?_, rfl, rfl, rfl, rfl, rfl, rfl⟩
  rw [transactions, hseq, hbytes, hbus]

end Whole

/-! #### The unmapped opcodes, column by column (R125) -/

theorem encode_of_mem_formsUnmapped : ∀ g ∈ formsUnmapped, encode g.2 = [g.1] :=
  List.map_inj_left.mp rfl

theorem sequenceOf_of_mem_formsUnmapped (cfg : Config) : ∀ g ∈ formsUnmapped, sequenceOf cfg g.2 = seqUnmapped :=
  List.map_inj_left.mp rfl

theorem operandBytesOf_of_mem_formsUnmapped (s : State) : ∀ g ∈ formsUnmapped, operandBytesOf g.2 s = [] :=
  List.map_inj_left.mp rfl

end Sys2Proof.Machine

open Sys2Proof Sys2Proof.Machine

/-- Settles O21: each is a two-cycle instruction that writes one flag (`exec_set_flag`). -/
theorem flagInstructionsWriteOneFlag : Obligations.FlagInstructionsWriteOneFlag := by
  intro s b1 b2
  simp only [List.forall_mem_cons]
  exact ⟨exec_set_flag rfl rfl rfl, exec_set_flag rfl rfl rfl, exec_set_flag rfl rfl rfl, exec_set_flag rfl rfl rfl,
    exec_set_flag rfl rfl rfl, exec_set_flag rfl rfl rfl, exec_set_flag rfl rfl rfl, List.forall_mem_nil _⟩

/-- Settles O22: each is a two-cycle instruction (`exec_register_action`) that copies a register. -/
theorem transfersCopyRegisters : Obligations.TransfersCopyRegisters := by
  intro s b1 b2
  simp only [List.forall_mem_cons]
  refine ⟨?_, ?_, ?_, ?_, ?_, ?_, List.forall_mem_nil _⟩
  · exact exec_register_action (act := actTax) rfl rfl rfl (fun r => { r with x := r.a, p := withNZ r.a r.p })
      fun _ => ⟨rfl, rfl⟩
  · exact exec_register_action (act := actTay) rfl rfl rfl (fun r => { r with y := r.a, p := withNZ r.a r.p })
      fun _ => ⟨rfl, rfl⟩
  · exact exec_register_action (act := actTsx) rfl rfl rfl (fun r => { r with x := r.sp, p := withNZ r.sp r.p })
      fun _ => ⟨rfl, rfl⟩
  · exact exec_register_action (act := actTxa) rfl rfl rfl (fun r => { r with a := r.x, p := withNZ r.x r.p })
      fun _ => ⟨rfl, rfl⟩
  · exact exec_register_action (act := actTxs) rfl rfl rfl (fun r => { r with sp := r.x }) fun _ => ⟨rfl, rfl⟩
  · exact exec_register_action (act := actTya) rfl rfl rfl (fun r => { r with a := r.y, p := withNZ r.y r.p })
      fun _ => ⟨rfl, rfl⟩

/-- Settles O23: NOP is a two-cycle instruction (`exec_register_action`) without an action, and each unmapped opcode runs
the placeholder (`exec_unmapped`). -/
theorem nopAndPlaceholdersOnlyAdvance : Obligations.NopAndPlaceholdersOnlyAdvance := by
  refine ⟨fun s b1 b2 => ?_, fun s b1 b2 g hg => ⟨?_, ?_⟩, rfl⟩
  · exact exec_register_action (act := actNop) rfl rfl rfl id fun _ => ⟨rfl, rfl⟩
  · exact decodeOpcode_of_encode (n := 0) (encode_of_mem_formsUnmapped g hg)
  · exact exec_unmapped (sequenceOf_of_mem_formsUnmapped s.cfg g hg) (operandBytesOf_of_mem_formsUnmapped s g hg)

/-- Settles O28: each is a push (`exec_push`), of `A` and of the status byte with bits 5 and 4 set. -/
theorem pushesStoreAndDecrement : Obligations.PushesStoreAndDecrement := by
  intro s b1 b2
  refine List.forall_mem_cons.mpr ⟨?_, List.forall_mem_singleton.mpr ?_⟩
  · exact exec_push (v := Cpu.a) rfl rfl rfl fun _ hc => congrArg Regs.a hc
  · exact exec_push (v := fun c => forceStatus c.p) rfl rfl rfl fun _ hc => congrArg (fun r : Regs => forceStatus r.p) hc

/-- Settles O29: each is a pull (`exec_pull`), into `A` with Z and N and into the status byte with bits 5 and 4 set. -/
theorem pullsIncrementAndLoad : Obligations.PullsIncrementAndLoad := by
  intro s b1 b2 v
  refine List.forall_mem_cons.mpr ⟨?_, List.forall_mem_singleton.mpr ?_⟩
  · exact exec_pull (take := takePla) rfl rfl rfl (fun v r => { r with a := v, p := withNZ v r.p }) fun _ _ => ⟨rfl, rfl⟩
  · exact exec_pull (take := takePlp) rfl rfl rfl (fun v r => { r with p := forceStatus v }) fun _ _ => ⟨rfl, rfl⟩
end

section
/-! ### BRK, RTI and the frame of an exception (R340, R341, R366, R367, R371) -/

namespace Sys2Proof.Machine

/-- A status byte whose bits 5 and 4 are set is not changed by forcing them (R39). -/
theorem forceStatus_eq_self {p : Byte} (h5 : p.getLsbD 5 = true) (h4 : p.getLsbD 4 = true) : forceStatus p = p := by
  have hmask : ∀ k < 8, (0x30#8).getLsbD k = true → k = 4 ∨ k = 5 := by decide
  refine BitVec.eq_of_getLsbD_eq fun k hk => ?_
  rw [forceStatus, BitVec.getLsbD_or, Bool.or_eq_left_iff_imp]
  intro hbit
  obtain rfl | rfl := hmask k hk hbit
  · exact h4
  · exact h5

/-- What RTI pulls of the status that an entry pushed: the same byte, as bits 5 and 4 were set in it (R39, R341). -/
theorem State.forceStatus_pushedStatus {s : State} (hs : s.statusOk = true) (e : Entry) :
    forceStatus (e.pushedStatus s.cpu.p) = e.pushedStatus s.cpu.p := by
  obtain ⟨h5, h4⟩ := State.statusOk_iff.mp hs
  exact forceStatus_eq_self (e.getLsbD_pushedStatus (by decide) (by decide) h5)
    (e.getLsbD_pushedStatus (by decide) (by decide) h4)

theorem State.stores_pokes (s : State) (l : List (Word × Byte)) : Stores s (s.pokes l) l :=
  ⟨rfl, fun _ => rfl, fun hram => State.peek_pokes_plain hram l⟩

/-- After stores to a plain RAM the last one's address reads as its byte, and any other as the stores before it left it. -/
theorem Stores.peek_append {s t : State} {l : List (Word × Byte)} {e : Word × Byte} (hram : s.plainRam = true)
    (h : Stores s t (l ++ [e])) (a : Word) : t.peek a = if a = e.1 then e.2 else (s.pokes l).peek a := by
  obtain ⟨-, hpeek, -⟩ := h
  rw [hpeek, State.pokes_append, State.peek_poke_plain (State.plainRam_pokes hram l)]

/-- A word and then a byte pushed from `sp` on a plain RAM with an aligned stack page: both are there to be pulled. The
third push leaves the first two as they are, wherever `sp` wraps. -/
theorem Stores.peek_pushed_frame {s t : State} {sp v : Byte} {w : Word} (hram : s.plainRam = true)
    (hpage : s.cfg.stackPageOk = true)
    (h : Stores s t
      [(stackAddr s.cfg sp, hiByte w), (stackAddr s.cfg (sp - 1), loByte w), (stackAddr s.cfg (sp - 2), v)]) :
    t.peek (stackAddr s.cfg (sp - 2)) = v ∧
      word (t.peek (stackAddr s.cfg sp)) (t.peek (stackAddr s.cfg (sp - 1))) = w := by
  have hread := Stores.peek_append (l := [(stackAddr s.cfg sp, hiByte w), (stackAddr s.cfg (sp - 1), loByte w)]) hram h
  have hhigh : stackAddr s.cfg sp ≠ stackAddr s.cfg (sp - 2) := (stackAddr_injective hpage).ne (by bv_omega)
  have hlow : stackAddr s.cfg (sp - 1) ≠ stackAddr s.cfg (sp - 2) := (stackAddr_injective hpage).ne (by bv_omega)
  refine ⟨(hread _).trans (if_pos rfl), ?_⟩
  rw [hread, if_neg hhigh, hread, if_neg hlow]
  exact (s.stores_pokes _).peek_pushed_word hram hpage

/-- RTI right after an entry `e` that pushed `w` and the status: it goes on at `w` with the status pushed, and every other
register as before the entry (R341, R371). -/
theorem rti_undoes_entry (e : Entry) {s t : State} {n : Nat} {p : Byte} {w pc : Word} (hram : s.plainRam = true)
    (hpage : s.cfg.stackPageOk = true) (hs : s.statusOk = true)
    (hretires : Retires s t n { s.regs with sp := s.cpu.sp - 3, p := p, pc := pc })
    (hstores : Stores s t [(stackAddr s.cfg s.cpu.sp, hiByte w), (stackAddr s.cfg (s.cpu.sp - 1), loByte w),
      (stackAddr s.cfg (s.cpu.sp - 2), e.pushedStatus s.cpu.p)]) :
    ∃ u, exec .rti t = .next u ∧ u.regs = { s.regs with p := e.pushedStatus s.cpu.p, pc := w } := by
  obtain ⟨hregs, -, -, -, -, -, hcfg, -⟩ := hretires
  obtain ⟨hstatus, hword⟩ := hstores.peek_pushed_frame hram hpage
  obtain ⟨u, hrti, ⟨hu, -⟩, -⟩ := run_rti t
  have hsp : t.cpu.sp = s.cpu.sp - 3 := congrArg Regs.sp hregs
  have hfirst : s.cpu.sp - 3 + 1 = s.cpu.sp - 2 := by bv_omega
  have hsecond : s.cpu.sp - 3 + 2 = s.cpu.sp - 1 := by bv_omega
  refine ⟨u, hrti, ?_⟩
  rw [hu, hregs, hcfg, hsp, hfirst, hsecond, BitVec.sub_add_cancel, hstatus, hword, State.forceStatus_pushedStatus hs]
  rfl

end Sys2Proof.Machine

open Sys2Proof Sys2Proof.Machine

/-- Settles O30: what the sequence does as a whole (`run_brk`). -/
theorem brkTakesSoftwareInterrupt : Obligations.BrkTakesSoftwareInterrupt := fun s _ _ =>
  ⟨decodeOpcode_of_encode (n := 0) rfl, run_brk s⟩

/-- Settles O31: what the sequence does as a whole (`run_rti`). -/
theorem rtiRestoresStatusAndPc : Obligations.RtiRestoresStatusAndPc := fun s _ _ =>
  ⟨decodeOpcode_of_encode (n := 0) rfl, run_rti s⟩

/-- Settles O36: each is an entry that RTI undoes (`rti_undoes_entry`); IRQ pushes the status as held, NMI with `I` set, and
BRK with bits 5 and 4 set, which they were. -/
theorem rtiUndoesInterruptFrames : Obligations.RtiUndoesInterruptFrames := by
  intro s hram hpage hs
  refine ⟨fun t hirq => ?_, fun t hnmi => ?_, fun t hbrk => ?_⟩
  · obtain ⟨t', hrun, hretires, hstores, -⟩ := run_entry (irqEntry s.cfg) s
    obtain rfl : t = t' := Host.Outcome.next.inj (hirq.symm.trans hrun)
    exact rti_undoes_entry (irqEntry s.cfg) hram hpage hs hretires hstores
  · obtain ⟨t', hrun, hretires, hstores, -⟩ := run_entry (nmiEntry s.cfg) s
    obtain rfl : t = t' := Host.Outcome.next.inj (hnmi.symm.trans hrun)
    exact rti_undoes_entry (nmiEntry s.cfg) hram hpage hs hretires hstores
  · obtain ⟨t', hrun, hretires, hstores, -⟩ := run_brk s
    obtain rfl : t = t' := Host.Outcome.next.inj (hbrk.symm.trans hrun)
    obtain ⟨h5, h4⟩ := State.statusOk_iff.mp hs
    have hheld : (brkEntry s.cfg).pushedStatus s.cpu.p = s.cpu.p := forceStatus_eq_self h5 h4
    obtain ⟨u, hrti, hu⟩ := rti_undoes_entry (brkEntry s.cfg) hram hpage hs hretires hstores
    exact ⟨u, hrti, by rw [hu, hheld]; rfl⟩
end

section
/-! ### The pseudo-instructions and the status byte (R365 to R367) -/

namespace Sys2Proof.Machine

/-- Of two writes of one flag the second stands. -/
theorem setFlag_setFlag (f : Flag) (on on' : Bool) (p : Byte) : setFlag f on (setFlag f on' p) = setFlag f on p := by
  refine BitVec.eq_of_getLsbD_eq fun k hk => ?_
  simp only [getLsbD_setFlag f _ _ hk]
  split <;> rfl

/-- NMI sets `P.I` for its push and clears it at its end (R366). -/
theorem nmiEntry_newStatus (cfg : Config) (p : Byte) : (nmiEntry cfg).newStatus p = withFlags [(.i, false)] p :=
  setFlag_setFlag .i false true p

end Sys2Proof.Machine

open Sys2Proof Sys2Proof.Machine

/-- Settles O32: what the sequence does as a whole (`run_reset`). -/
theorem resetLoadsInitialRegisters : Obligations.ResetLoadsInitialRegisters := run_reset

/-- Settles O33: the exception entry as a whole (`run_entry`), with the status byte that NMI leaves (`nmiEntry_newStatus`). -/
theorem nmiPushesMaskedStatusAndUnmasks : Obligations.NmiPushesMaskedStatusAndUnmasks := by
  intro s
  obtain ⟨t, hrun, hretires, hstores, hclears, hbus⟩ := run_entry (nmiEntry s.cfg) s
  rw [nmiEntry_newStatus] at hretires
  exact ⟨t, hrun, hretires, hstores, hclears rfl, hbus⟩

/-- Settles O34: the exception entry as a whole (`run_entry`). -/
theorem irqPushesStatusThenMasks : Obligations.IrqPushesStatusThenMasks := by
  intro s
  obtain ⟨t, hrun, hretires, hstores, -, hbus⟩ := run_entry (irqEntry s.cfg) s
  exact ⟨t, hrun, hretires, hstores, hbus⟩
end

section
/-! ### The arbiter at cycle 0 (R157, R179, R363, R364) -/

namespace Sys2Proof.Machine

/-! #### What is selected -/

section Select
variable {c : Cpu} {s : State}

theorem Cpu.select_of_reset (hres : c.resPend = true) : c.select = Config.selReset := if_pos hres

theorem Cpu.select_of_nmi (hres : c.resPend = false) (hnmi : c.nmiPend = true) : c.select = Config.selNmi := by
  simp only [Cpu.select, hres, hnmi, Bool.false_eq_true, if_false, if_true]

theorem Cpu.select_of_irq (hres : c.resPend = false) (hnmi : c.nmiPend = false) (hirq : c.irqPend = true) :
    c.select = Config.selIrq := by
  simp only [Cpu.select, hres, hnmi, hirq, Bool.false_eq_true, if_false, if_true]

/-- An IRQ that is not pending is not selected: no byte is its selector. -/
theorem Cpu.select_ne_selIrq (hirq : c.irqPend = false) : c.select ≠ Config.selIrq := by
  cases hres : c.resPend with
  | true => rw [Cpu.select_of_reset hres]; decide
  | false =>
    cases hnmi : c.nmiPend with
    | true => rw [Cpu.select_of_nmi hres hnmi]; decide
    | false =>
      rw [Cpu.select_of_no_request hres hnmi hirq]
      intro heq
      have hlt : (c.dbuf.setWidth 9).toNat < 256 := by simp; omega
      rw [heq] at hlt
      exact absurd hlt (by decide)

theorem State.selected_of_selReset (h : s.cpu.ir = Config.selReset) : s.selected = some .reset := by
  rw [State.selected, h]; rfl

theorem State.selected_of_selNmi (h : s.cpu.ir = Config.selNmi) : s.selected = some .nmi := by
  rw [State.selected, h]; rfl

theorem State.selected_of_selIrq (h : s.cpu.ir = Config.selIrq) : s.selected = some .irq := by
  rw [State.selected, h]; rfl

theorem State.platformOk_of_instructionLevel (h : s.instructionLevel = true) : s.platformOk = true := by
  simp only [State.instructionLevel, Bool.and_eq_true] at h
  obtain ⟨-, -, hplatform, -⟩ := h
  exact hplatform

/-- From an instruction boundary at which only an IRQ is pending the step is the IRQ. -/
theorem step_eq_exec_irq (hlevel : s.instructionLevel = true) (hres : s.clockCycle.cpu.resPend = false)
    (hnmi : s.clockCycle.cpu.nmiPend = false) (hirq : s.clockCycle.cpu.irqPend = true) :
    step s = exec .irq s.cycleZero :=
  step_of_selected hlevel (State.selected_of_selIrq (Cpu.select_of_irq hres hnmi hirq))

end Select

/-! #### Past cycle 0 -/

theorem Cpu.risingEdge_of_cyc_ne_zero {c : Cpu} (h : c.cyc ≠ 0) (cfg : Config) (v : Byte) :
    c.risingEdge cfg v = (microStep cfg { c with dbuf := v }).count c.cyc := by
  simp only [Cpu.risingEdge, if_neg h]

/-! #### A pending NMI waits -/

theorem State.nmiPend_lineTicks (n : Nat) {s : State} (h : s.cpu.nmiPend = true) :
    (State.lineTicks n s).cpu.nmiPend = true := by
  induction n generalizing s with
  | zero => exact h
  | succ n ih => exact ih (Bool.or_eq_true_iff.mpr (.inl h))

theorem State.nmiPend_clockCycle {s : State} (h : s.cpu.nmiPend = true) : s.clockCycle.cpu.nmiPend = true :=
  State.nmiPend_lineTicks (2 * s.cfg.clkDiv) h

theorem State.nmiPend_operandCycle {s : State} (b : Option Byte) (h : s.cpu.nmiPend = true) :
    (s.operandCycle b).cpu.nmiPend = true := by
  cases b <;> exact State.nmiPend_clockCycle h

/-- Nothing but NMI clears the NMI latch: neither a micro-step nor the lines (R362, R372). -/
theorem runFrom_nmiPend {i : Instr} (hi : i ≠ .nmi) {k : Nat} {us : List Micro} {ops : List (Option Byte)} {s t : State}
    (hus : SequenceStages i us) (h : s.cpu.nmiPend = true) (hrun : runFrom k us ops s = .next t) :
    t.cpu.nmiPend = true := by
  induction us generalizing k ops s with
  | nil => cases hrun; exact h
  | cons u us ih =>
    obtain ⟨hu, hus⟩ := List.forall_mem_cons.mp hus
    specialize hu s.cpu
    obtain ⟨c, he, hrest⟩ | ⟨c, he, rfl⟩ := runFrom_cons_eq_next hrun
    · rw [he] at hu
      obtain ⟨-, hkept⟩ := hu
      exact ih hus (State.nmiPend_operandCycle _ ((hkept.nmiPend hi).trans h)) hrest
    · rw [he] at hu
      exact (hu.nmiPend hi).trans h

theorem exec_nmiPend {i : Instr} (hi : i ≠ .nmi) {s t : State} (h : s.cpu.nmiPend = true) (hexec : exec i s = .next t) :
    t.cpu.nmiPend = true :=
  runFrom_nmiPend hi (sequenceOf_stages s.cfg i) h ((exec_eq_run i s).symm.trans hexec)

end Sys2Proof.Machine

open Sys2Proof Sys2Proof.Machine

/-- Settles O6: the selection request by request (`Cpu.select_of_reset` and its like), past cycle 0 a micro-step, which keeps
`IR` (`microStep_keepsPins`), and the NMI latch through RESET (`exec_nmiPend`). -/
theorem arbiterSelectsByPriority : Obligations.ArbiterSelectsByPriority := by
  refine ⟨fun c => ⟨Cpu.select_of_reset, Cpu.select_of_nmi, Cpu.select_of_irq, Cpu.select_of_no_request, rfl, rfl, rfl⟩,
    fun s hlevel => ⟨fun hres => ?_, fun hres hnmi => ?_, step_eq_exec_irq hlevel⟩,
    fun cfg v c c' hcyc hend => ?_, fun s t hexec hnmi => ?_⟩
  · exact step_of_selected hlevel (State.selected_of_selReset (Cpu.select_of_reset hres))
  · exact step_of_selected hlevel (State.selected_of_selNmi (Cpu.select_of_nmi hres hnmi))
  · have hpins := (microStep_keepsPins cfg { c with dbuf := v }).count c.cyc
    rw [← Cpu.risingEdge_of_cyc_ne_zero hcyc] at hpins
    obtain he | he := hend <;> rw [he] at hpins <;> exact congrArg Pins.ir hpins
  · have ht := exec_nmiPend (by decide) hnmi hexec
    exact ⟨ht, fun hres => Cpu.select_of_nmi hres (State.nmiPend_clockCycle ht)⟩

/-- Settles O58: cycle 0 latches the line under `P.I` (`State.irqMasked_clockCycle`), and only a pending IRQ is selected
(`Cpu.select_ne_selIrq`). -/
theorem irqIsMaskedByI : Obligations.IrqIsMaskedByI := by
  intro s hlevel
  obtain ⟨hclk, -, hports, -⟩ := State.platformOk_iff.mp (State.platformOk_of_instructionLevel hlevel)
  have hirq := State.irqMasked_clockCycle (linesApart_of_portsOk hclk hports)
  rw [State.IrqMasked, s.clockCycle_cfg] at hirq
  refine ⟨fun hi => ?_, fun hi hline hres hnmi => ?_⟩
  · have hnot : s.clockCycle.cpu.irqPend = false := by rw [hirq, hi, Bool.not_true, Bool.and_false]
    exact ⟨hnot, Cpu.select_ne_selIrq hnot⟩
  · have hpend : s.clockCycle.cpu.irqPend = true := by rw [hirq, hi, hline]; rfl
    exact ⟨Cpu.select_of_irq hres hnmi hpend, step_eq_exec_irq hlevel hres hnmi hpend⟩
end

section
/-! ### The latches in a tick (R150 E3 and E4, R361 to R363, R372) -/

namespace Sys2Proof.Machine

/-! #### The latch that a micro-step clears -/

/-- A micro-step of `i` that goes on clears no latch; one that retires clears the latch of its pseudo-instruction (R365, R366,
D35). -/
def MicroEnd.ClearsAtEnd (i : Instr) (c : Cpu) : MicroEnd → Prop
  | .more c' => c'.nmiPend = c.nmiPend ∧ c'.resPend = c.resPend
  | .retired c' => c'.nmiPend = (c.nmiPend && decide (i ≠ .nmi)) ∧ c'.resPend = (c.resPend && decide (i ≠ .reset))
  | .refuse _ => True

/-- What `Stages` says of an instruction that has no latch of its own. -/
theorem MicroEnd.Stages.clearsAtEnd {i : Instr} {c : Cpu} {e : MicroEnd} (h : e.Stages i c) (hnmi : i ≠ .nmi)
    (hres : i ≠ .reset) : e.ClearsAtEnd i c := by
  cases e with
  | more c' =>
    obtain ⟨-, hkept⟩ := h
    exact ⟨hkept.nmiPend hnmi, hkept.resPend hres⟩
  | retired c' =>
    refine ⟨?_, ?_⟩
    · rw [decide_eq_true hnmi, Bool.and_true]; exact Cpu.KeepsLatches.nmiPend h hnmi
    · rw [decide_eq_true hres, Bool.and_true]; exact Cpu.KeepsLatches.resPend h hres
  | refuse r => trivial

theorem seqReset_clearsAtEnd (cfg : Config) : ∀ u ∈ seqReset cfg, ∀ c, (u c).ClearsAtEnd .reset c := by
  simp only [seqReset, resetSequence, List.forall_mem_cons]
  exact ⟨fun _ => ⟨rfl, rfl⟩, fun _ => ⟨rfl, rfl⟩, fun c => ⟨(Bool.and_true _).symm, (Bool.and_false _).symm⟩, by simp⟩

theorem seqNmi_clearsAtEnd (cfg : Config) : ∀ u ∈ seqNmi cfg, ∀ c, (u c).ClearsAtEnd .nmi c := by
  simp only [seqNmi, entrySequence, List.forall_mem_cons]
  exact ⟨fun _ => ⟨rfl, rfl⟩, fun _ => ⟨rfl, rfl⟩, fun _ => ⟨rfl, rfl⟩, fun _ => ⟨rfl, rfl⟩, fun _ => ⟨rfl, rfl⟩,
    fun c => ⟨(Bool.and_false _).symm, (Bool.and_true _).symm⟩, by simp⟩

theorem sequenceOf_clearsAtEnd (cfg : Config) (i : Instr) : ∀ u ∈ sequenceOf cfg i, ∀ c, (u c).ClearsAtEnd i c := by
  by_cases hnmi : i = .nmi
  · subst hnmi; exact seqNmi_clearsAtEnd cfg
  by_cases hres : i = .reset
  · subst hres; exact seqReset_clearsAtEnd cfg
  exact fun u hu c => (sequenceOf_stages cfg i u hu c).clearsAtEnd hnmi hres

/-- A pseudo-instruction has its own selector, and no opcode decodes to it (R44, R126). -/
theorem decodeSelector_pseudo {cfg : Config} {sel : Selector} {b1 b2 : Byte} {i : Instr}
    (h : decodeSelector cfg sel b1 b2 = some i) :
    (i = .nmi ↔ sel = Config.selNmi) ∧ (i = .reset ↔ sel = Config.selReset) := by
  unfold decodeSelector at h
  split_ifs at h with hreset hnmi hirq hop
  · cases h; subst hreset; decide
  · cases h; subst hnmi; decide
  · cases h; subst hirq; decide
  · cases h
    have hwf := wellFormed_decodeOpcode (cfg.rowOf (sel.setWidth 8)) b1 b2
    exact ⟨iff_of_false (fun he => by rw [he] at hwf; exact absurd hwf (by decide)) hnmi,
      iff_of_false (fun he => by rw [he] at hwf; exact absurd hwf (by decide)) hreset⟩

/-! #### A rising edge -/

/-- From `c`, which enters a micro-step, to `c'`, which leaves it: trackers and latches stand still, but that the micro-step
which completes NMI or RESET, and so leaves `CYC` at 0 under its selector, clears that one's latch. -/
structure Cpu.Latched (c c' : Cpu) : Prop where
  lastClk : c'.lastClk = c.lastClk
  lastNmi : c'.lastNmi = c.lastNmi
  irqPend : c'.irqPend = c.irqPend
  nmiPend : c'.nmiPend = true ↔ c.nmiPend = true ∧ ¬ (c'.ir = Config.selNmi ∧ c'.cyc = 0)
  resPend : c'.resPend = true ↔ c.resPend = true ∧ ¬ (c'.ir = Config.selReset ∧ c'.cyc = 0)

/-- A micro-step's end has dealt so with the latches of `c`. -/
def MicroEnd.Latched (c : Cpu) : MicroEnd → Prop
  | .more c' => c.Latched c'
  | .retired c' => c.Latched c'
  | .refuse _ => True

/-- The micro-step that `IR` and `CYC` select. -/
theorem microStep_latched (cfg : Config) (c : Cpu) : ((microStep cfg c).count c.cyc).Latched c := by
  cases hi : decodeSelector cfg c.ir 0 0 with
  | none =>
    have hnone : microStep cfg c = .refuse .noMicroStep := by rw [microStep, sequenceAt, hi]; rfl
    rw [hnone]
    trivial
  | some i =>
    obtain ⟨hnmi, hres⟩ := decodeSelector_pseudo hi
    have hpins := microStep_keepsPins cfg c
    unfold microStep at *
    rw [sequenceAt_of_decodeSelector hi] at *
    cases hu : (sequenceOf cfg i)[c.cyc]? with
    | none => trivial
    | some u =>
      have hmem := List.mem_of_getElem? hu
      have hstages := sequenceOf_stages cfg i u hmem c
      have hclears := sequenceOf_clearsAtEnd cfg i u hmem c
      rw [hu] at hpins
      dsimp only at hpins ⊢
      cases he : u c with
      | more c' =>
        rw [he] at hstages hclears
        obtain ⟨-, -, hirq, -, hclk, hlast⟩ := hstages
        obtain ⟨hn, hr⟩ := hclears
        exact ⟨hclk, hlast, hirq, by simp [hn], by simp [hr]⟩
      | retired c' =>
        rw [he] at hstages hclears hpins
        obtain ⟨-, hirq, -, hclk, hlast⟩ := hstages
        obtain ⟨hn, hr⟩ := hclears
        have hir : c'.ir = c.ir := congrArg Pins.ir hpins
        exact ⟨hclk, hlast, hirq, by simp [hn, hir, hnmi], by simp [hr, hir, hres]⟩
      | refuse r => trivial

/-- E6, which samples and dispatches before its micro-step, touches no latch with that. -/
theorem Cpu.risingEdge_latched (cfg : Config) (sample : Byte) (c : Cpu) : (c.risingEdge cfg sample).Latched c := by
  obtain ⟨d, hd, heq⟩ : ∃ d : Cpu, d.latches = c.latches ∧ c.risingEdge cfg sample = (microStep cfg d).count d.cyc := by
    refine ⟨_, ?_, rfl⟩
    split <;> rfl
  simp only [Cpu.latches, Latches.mk.injEq] at hd
  obtain ⟨hnmi, hirq, hres, hclk, hlast⟩ := hd
  have hlatched := microStep_latched cfg d
  rw [heq]
  generalize (microStep cfg d).count d.cyc = e at hlatched
  have hcongr : ∀ c', d.Latched c' → c.Latched c' := fun c' h =>
    ⟨h.lastClk.trans hclk, h.lastNmi.trans hlast, h.irqPend.trans hirq, hnmi ▸ h.nmiPend, hres ▸ h.resPend⟩
  cases e with
  | more c' => exact hcongr c' hlatched
  | retired c' => exact hcongr c' hlatched
  | refuse r => trivial

/-! #### A tick -/

/-- The CPU's `evaluate()` latches the lines, and only a rising edge's micro-step comes upon the latches after that. -/
theorem State.evaluateCpu_latches {s t : State} (h : s.evaluateCpu = .next t) :
    (¬ (s.cpu.lastClk = false ∧ s.level s.cfg.ports.clk = true) ∧ t.cpu.latches = s.latchLines.cpu.latches) ∨
      (s.cpu.lastClk = false ∧ s.level s.cfg.ports.clk = true) ∧ s.latchLines.cpu.Latched t.cpu := by
  unfold State.evaluateCpu at h
  dsimp only at h
  split at h
  case isTrue hfall => cases h; exact .inl ⟨fun ⟨hlast, _⟩ => by simp [hlast] at hfall, rfl⟩
  split at h
  case isTrue hrise =>
    have hlatched := Cpu.risingEdge_latched s.latchLines.cfg
      (BitVec.ofNat 8 (s.latchLines.buses.get s.latchLines.cfg.ports.data).last) s.latchLines.cpu
    refine .inr ⟨by simpa using hrise, ?_⟩
    split at h
    case h_1 he => cases h; rw [he] at hlatched; exact hlatched
    case h_2 he => cases h; rw [he] at hlatched; exact hlatched
    case h_3 => cases h
  case isFalse hrise => cases h; exact .inl ⟨by simpa using hrise, rfl⟩

end Sys2Proof.Machine

open Sys2Proof Sys2Proof.Machine

/-- Settles O56: the lines are latched in every tick, and what a rising edge's micro-step does to a latch is to clear it on
completion (`State.evaluateCpu_latches`). -/
theorem latchesUpdateEveryTick : Obligations.LatchesUpdateEveryTick := by
  intro s t heval p rising nmi res completes
  have hnmi : s.latchLines.cpu.nmiPend = true ↔ nmi := by simp [State.latchLines, nmi, p]
  have hres : s.latchLines.cpu.resPend = true ↔ res := by simp [State.latchLines, res, p]
  obtain ⟨hedge, hlatches⟩ | ⟨hedge, hlatched⟩ := State.evaluateCpu_latches heval
  · simp only [Cpu.latches, Latches.mk.injEq] at hlatches
    obtain ⟨hn, hi, hr, hclk, hlast⟩ := hlatches
    have hnot : ∀ sel, ¬ completes sel := fun sel hc => hedge hc.1
    exact ⟨hclk, hlast, hi, by rw [hn, hnmi, and_iff_left (hnot _)], by rw [hr, hres, and_iff_left (hnot _)]⟩
  · have hcompletes : ∀ sel, completes sel ↔ t.cpu.ir = sel ∧ t.cpu.cyc = 0 := fun sel => and_iff_right hedge
    refine ⟨hlatched.lastClk, hlatched.lastNmi, hlatched.irqPend, ?_, ?_⟩
    · rw [hlatched.nmiPend, hnmi, hcompletes]
    · rw [hlatched.resPend, hres, hcompletes]
end

section
/-! ### Ticks that only read, on a platform with `CLK_DIV` = 1 (R91, R152, R153, R434) -/

namespace Sys2Proof.Machine

theorem Buses.wf_driven {p : Ports} {bs : Buses} (ho : bs.OutputsOk p) (c : Cpu) (l : DataLine) (h : bs.wf = true) :
    (bs.driven p c l).wf = true := by
  rw [Buses.wf_iff] at *
  obtain ⟨haddr, hrw, hsync, hdata⟩ := ho.get_onOutputs (Bus.write c.oaddr.toNat) (Bus.write c.orw.toNat)
    (Bus.write c.osync.toNat) (Bus.carry l)
  intro id
  by_cases hid : id ∈ p.outputs
  · simp only [Ports.outputs, List.mem_cons, List.not_mem_nil, or_false] at hid
    rw [Buses.driven]
    obtain rfl | rfl | rfl | rfl := hid
    · rw [haddr]; exact Bus.wf_write _ (h _)
    · rw [hdata]
      exact Bus.wf_of_sameWires (h _) ⟨rfl, rfl, rfl⟩ (by rw [Bus.mask, ho.dataWidth]; exact Nat.le_pred_of_lt l.byte.isLt)
    · rw [hrw]; exact Bus.wf_write _ (h _)
    · rw [hsync]; exact Bus.wf_write _ (h _)
  · rw [Buses.driven, Buses.get_onOutputs_of_not_mem hid]
    exact h id

/-- On a rising edge the CPU drives its outputs after the micro-step (R153). -/
theorem State.evaluateCpu_of_rising {s : State} {c : Cpu} (hlast : s.cpu.lastClk = false)
    (h : s.level s.cfg.ports.clk = true) (hrise : s.latchLines.rise = .more c ∨ s.latchLines.rise = .retired c) :
    s.evaluateCpu = .next (s.latchLines.withCpu c).driveOutputs := by
  unfold State.rise at hrise
  simp only [State.evaluateCpu, hlast, h]
  obtain he | he := hrise <;> rw [he] <;> rfl

/-- Between two ticks of a run in which the CPU has only read: the platform and its inputs are those of the instruction
level, the clock has just reached the level `v`, and the published and the staged bus cycle are reads. Unlike
`State.Ready` it asks nothing of the bytes in memory. -/
structure State.Fetching (v : Bool) (s : State) : Prop where
  platform : s.platformOk = true
  divisor : s.cfg.clkDiv = 1
  inputs : ∀ i ∈ s.inputs, i.sparesOutputs s.cfg.ports = true
  clock : s.ClockAt v 0
  buses : s.buses.wf = true
  published : s.cpu.orw = true
  staged : s.cpu.prw = true

/-- The state with memory devices that hold 0x00 everywhere. -/
def State.bare (s : State) : State :=
  { s with mems := s.mems.map MemDevice.frame }

section Fetching
variable {s : State} {v : Bool} {c : Cpu}

theorem State.transacted_read (h : s.cpu.orw = true) :
    s.transacted.1 = s.mems ∧ s.transacted.2.byte = s.peek s.cpu.oaddr := by
  rw [State.transacted, h]
  exact ⟨memsCycle_read_mems _ _ _ _ _, rfl⟩

theorem State.Fetching.ready (h : s.Fetching v) (hc : Canonical s.mems) : s.Ready :=
  ⟨h.platform, h.inputs, hc, (State.transacted_read h.published).1⟩

/-- The lines and the clock do not see memory, so they move as in a ready state. -/
theorem State.Fetching.ready_bare (h : s.Fetching v) : s.bare.Ready := by
  have hframe : s.bare.mems.map MemDevice.frame = s.mems.map MemDevice.frame := List.map_map
  have hplatform : s.bare.platformOk = true :=
    (State.platformOk_congr (s := s) (t := s.bare) rfl (.refl _) hframe).trans h.platform
  have hbare : s.bare.Fetching v :=
    ⟨hplatform, h.divisor, h.inputs, ⟨h.clock.lastClk, h.clock.value, h.clock.div⟩, h.buses, h.published, h.staged⟩
  refine hbare.ready fun d hd => ?_
  obtain ⟨e, -, rfl⟩ := List.mem_map.mp hd
  rfl

/-- With `CLK_DIV` = 1 every tick has an edge (R69). -/
theorem State.Fetching.clockAt_lineTick (h : s.Fetching v) : s.startTick.latchLines.ClockAt (!v) 0 := by
  have hbare : s.bare.ClockAt v 0 := ⟨h.clock.lastClk, h.clock.value, h.clock.div⟩
  obtain ⟨hlast, hvalue, hdiv⟩ := h.ready_bare.clockAt_toggle hbare h.divisor.symm
  exact ⟨hlast, hvalue, hdiv⟩

/-- A tick in which the CPU's `evaluate()` leaves `c`, with another read staged: memory stays, and the byte that the CPU
addresses stands on the data bus (R91). -/
theorem State.Fetching.tick (h : s.Fetching v)
    (heval : s.startTick.evaluateCpu = .next (s.startTick.latchLines.withCpu c).driveOutputs)
    (hclk : c.lastClk = !v) (hpublished : c.orw = true) (hstaged : c.prw = true) :
    ∃ t, s.tick = .next t ∧ t.Fetching (!v) ∧ t.cpu = c ∧ s.SameMemory t ∧
      (t.buses.get t.cfg.ports.data).value = (s.peek c.oaddr).toNat := by
  obtain ⟨order, horder, hperm⟩ := State.platformOk_order h.platform
  have hcpu : DeviceId.cpu ∉ order := fun hmem => by simpa using hperm.subset hmem
  obtain ⟨t, ht, htcpu, -⟩ := State.evaluateAll_of_cpu_notMem hcpu (s.startTick.latchLines.withCpu c).driveOutputs
  have htick : s.tick = .next t := by
    rw [State.tick, horder, State.evaluateAll, State.evaluate, heval, andThen, ht]
  obtain ⟨c', rfl⟩ := State.tick_eq_driven h.platform h.ready_bare.nextInput htick
  obtain rfl : c' = c := htcpu
  have ho := (State.outputsOk_of_portsOk (State.platformOk_iff.mp h.platform).2.2.1).of_sameWiring s.startTick_sameWiring
  have hlines := Buses.driven_sameLines s.cfg.ports c' (s.startTick.latchLines.withCpu c').transacted.2 s.startTick.buses
  have hwiring := s.startTick_sameWiring.trans hlines.sameWiring
  obtain ⟨hmems, hbyte⟩ := State.transacted_read (s := s.startTick.latchLines.withCpu c') hpublished
  obtain ⟨-, hvalue, hdiv⟩ := h.clockAt_lineTick
  have hget := hlines.off _ (State.clk_not_mem_outputs (State.platformOk_iff.mp h.platform).2.2.1)
  have hsame : s.SameMemory (s.startTick.latchLines.withCpu c').driven := ⟨hwiring.kind, hmems, rfl⟩
  refine ⟨_, htick, ⟨?_, h.divisor, fun i hi => h.inputs i (List.mem_of_mem_tail hi), ?_, ?_, hpublished, hstaged⟩, rfl,
    hsame, ?_⟩
  · exact (State.platformOk_congr (s := s) (t := (s.startTick.latchLines.withCpu c').driven) rfl hwiring
      (congrArg _ hmems)).trans h.platform
  · exact ⟨hclk, (congrArg Bus.value hget).trans hvalue, (congrArg Bus.div hget).trans hdiv⟩
  · exact Buses.wf_driven ho _ _ (State.wf_startTick h.buses)
  · obtain ⟨-, -, -, hdata⟩ := ho.get_onOutputs (Bus.write c'.oaddr.toNat) (Bus.write c'.orw.toNat)
      (Bus.write c'.osync.toNat) (Bus.carry (s.startTick.latchLines.withCpu c').transacted.2)
    refine (congrArg Bus.value hdata).trans (congrArg BitVec.toNat ?_)
    exact hbyte.trans (State.peek_congr s.startTick_sameKinds rfl rfl _)

/-- The tick of a rising edge, whose micro-step leaves `c`. -/
theorem State.Fetching.tick_rising (h : s.Fetching false)
    (hrise : s.startTick.latchLines.rise = .more c ∨ s.startTick.latchLines.rise = .retired c)
    (hpins : c.lastClk = true ∧ c.orw = true) (hstaged : c.prw = true) :
    ∃ t, s.tick = .next t ∧ t.Fetching true ∧ t.cpu = c ∧ s.SameMemory t := by
  obtain ⟨hclk, hpublished⟩ := hpins
  have heval := State.evaluateCpu_of_rising (s := s.startTick) h.clock.lastClk h.clockAt_lineTick.lastClk hrise
  obtain ⟨t, htick, ht, hcpu, hsame, -⟩ := h.tick heval hclk hpublished hstaged
  exact ⟨t, htick, ht, hcpu, hsame⟩

/-- The byte that the CPU samples in the next tick is the one that stands on the data bus (R153). -/
theorem State.Fetching.sample (h : s.Fetching v) {d : Byte} (hd : (s.buses.get s.cfg.ports.data).value = d.toNat) :
    BitVec.ofNat 8 (s.startTick.latchLines.buses.get s.startTick.latchLines.cfg.ports.data).last = d := by
  have ho := State.outputsOk_of_portsOk (State.platformOk_iff.mp h.platform).2.2.1
  have hreset : s.startTick.buses.get s.cfg.ports.data = (s.buses.get s.cfg.ports.data).reset :=
    State.startTick_get_output ho h.ready_bare.nextInput (data_mem_outputs _)
  have hlast : (s.startTick.buses.get s.cfg.ports.data).last = d.toNat := by rw [hreset, Bus.last_reset, hd]
  exact (congrArg (BitVec.ofNat 8) hlast).trans (BitVec.ofNat_toNat ..|>.trans (BitVec.setWidth_eq d))

/-- Past cycle 0 the rising edge's micro-step is the next one of the selected sequence, on the byte that stands on the data
bus. -/
theorem State.Fetching.rise_eq (h : s.Fetching v) {d : Byte} (hd : (s.buses.get s.cfg.ports.data).value = d.toNat) {k : Nat}
    {u : Micro} {us : List Micro} (hcyc : s.cpu.cyc = k + 1) (hseq : (sequenceAt s.cfg s.cpu.ir).drop (k + 1) = u :: us) :
    s.startTick.latchLines.rise = (u { s.startTick.latchLines.cpu with dbuf := d }).count (k + 1) := by
  have hpast : s.startTick.latchLines.cpu.cyc ≠ 0 := fun hzero => absurd (hcyc.symm.trans hzero) (Nat.succ_ne_zero k)
  rw [State.rise, h.sample hd, Cpu.risingEdge_of_cyc_ne_zero hpast]
  exact State.micro_eq (s := s.startTick.latchLines.withCpu { s.startTick.latchLines.cpu with dbuf := d }) hcyc hseq

/-- The two ticks of a clock cycle past cycle 0: the staged read is published, and its byte is there for the micro-step `u`,
which leaves what `g` makes of the CPU that enters it. -/
theorem State.Fetching.ticks_cycle (h : s.Fetching true) {k : Nat} {u : Micro} {us : List Micro} {g : Cpu → Cpu}
    (hcyc : s.cpu.cyc = k + 1) (hseq : (sequenceAt s.cfg s.cpu.ir).drop (k + 1) = u :: us)
    (hu : ∀ c, (u c).count (k + 1) = .more (g c) ∨ (u c).count (k + 1) = .retired (g c))
    (hg : ∀ c, (g c).pins = c.pins ∧ (g c).prw = true) :
    ∃ l t, s.ticks 2 = .next t ∧ t.Fetching true ∧ s.SameMemory t ∧
      t.cpu = g (s.cpu.cycled (k + 1) (s.peek s.cpu.paddr) l) := by
  -- the falling edge
  have hfall := State.evaluateCpu_of_falling (s := s.startTick) h.clock.lastClk h.clockAt_lineTick.lastClk
  obtain ⟨t1, htick1, h1, hcpu1, hsame1, hdata⟩ := h.tick hfall h.clockAt_lineTick.lastClk h.staged h.staged
  have hir : (sequenceAt t1.cfg t1.cpu.ir).drop (k + 1) = u :: us := by rw [hsame1.cfg, hcpu1]; exact hseq
  have hrise := h1.rise_eq (d := s.peek s.cpu.paddr) hdata ((congrArg Cpu.cyc hcpu1).trans hcyc) hir
  -- the rising edge
  obtain ⟨l, hentry⟩ : ∃ l, ({ t1.startTick.latchLines.cpu with dbuf := s.peek s.cpu.paddr } : Cpu) =
      s.cpu.cycled (k + 1) (s.peek s.cpu.paddr) l := by
    refine ⟨t1.startTick.latchLines.cpu.latches, ?_⟩
    rw [← hcyc]
    simp only [State.latchLines, State.startTick, hcpu1]
    rfl
  rw [hentry] at hrise
  obtain ⟨hpins, hread⟩ := hg (s.cpu.cycled (k + 1) (s.peek s.cpu.paddr) l)
  have hclk := (congrArg Cpu.lastClk hentry).symm.trans h1.clockAt_lineTick.lastClk
  obtain ⟨t, htick, ht, hcpu, hsame⟩ := h1.tick_rising (hrise ▸ hu _)
    ⟨(congrArg Pins.lastClk hpins).trans hclk, (congrArg Pins.orw hpins).trans h.staged⟩ hread
  refine ⟨l, t, ?_, ht, hsame1.trans hsame, hcpu⟩
  rw [State.ticks_add_of_next (a := 1) ((State.ticks_one s).trans htick1) 1, State.ticks_one, htick]

end Fetching

/-! #### The boot (R52, R365, R422) -/

theorem sequenceAt_selReset (cfg : Config) : sequenceAt cfg Config.selReset = resetSequence cfg := rfl

theorem Cpu.risingEdge_of_cyc_zero {c : Cpu} (h : c.cyc = 0) (cfg : Config) (v : Byte) :
    c.risingEdge cfg v = (microStep cfg (Cpu.dispatch { c with dbuf := v })).count c.cyc := by
  simp only [Cpu.risingEdge, if_pos h]
  rfl

/-- A cycle 0 with a reset pending: RESET is selected, and its first micro-step sets the registers and stages the read of the
vector's low byte (R364, R365). -/
theorem Cpu.risingEdge_of_reset {c : Cpu} (hcyc : c.cyc = 0) (hres : c.resPend = true) (cfg : Config) (v : Byte) :
    ∃ c', c.risingEdge cfg v = .more c' ∧ c'.regs = { a := 0, x := 0, y := 0, sp := 0xFF, p := 0x30, pc := c.pc } ∧
      c'.pins = { c.pins with ir := Config.selReset } ∧ c'.cyc = 1 ∧ c'.paddr = cfg.resetVector ∧ c'.prw = true := by
  have hsel : Cpu.select { c with dbuf := v } = Config.selReset := Cpu.select_of_reset hres
  have hmicro := State.micro_eq (s := { State.reset with cfg := cfg, cpu := Cpu.dispatch { c with dbuf := v } }) (k := 0) hcyc
    (congrArg (fun sel => (sequenceAt cfg sel).drop 0) hsel)
  exact ⟨_, (Cpu.risingEdge_of_cyc_zero hcyc cfg v).trans hmicro, rfl,
    congrArg (fun sel => ({ c.pins with ir := sel } : Pins)) hsel, rfl, rfl, rfl⟩

/-- From a cycle 0 at which the reset line is low, five ticks run the three micro-steps of RESET (R361, R365). -/
theorem State.Fetching.ticks_reset {s : State} (h : s.Fetching false) (hcyc : s.cpu.cyc = 0)
    (hres : s.startTick.level s.cfg.ports.res = false) :
    ∃ t, s.ticks 5 = .next t ∧ t.Fetching true ∧ s.SameMemory t ∧ t.atBoundary = true ∧
      t.regs = { a := 0, x := 0, y := 0, sp := 0xFF, p := 0x30, pc := s.peek16 s.cfg.resetVector } ∧
      t.cpu.resPend = false ∧ t.cpu.ir = Config.selReset := by
  have hpend : s.startTick.latchLines.cpu.resPend = true := by
    show (s.cpu.resPend || !s.startTick.level s.cfg.ports.res) = true
    rw [hres, Bool.not_false, Bool.or_true]
  -- micro-step 0
  obtain ⟨c0, hrise, hregs, hpins, hcyc0, haddr, hread⟩ := Cpu.risingEdge_of_reset (c := s.startTick.latchLines.cpu) hcyc
    hpend s.cfg (BitVec.ofNat 8 (s.startTick.latchLines.buses.get s.cfg.ports.data).last)
  obtain ⟨t0, htick0, h0, rfl, hsame0⟩ := h.tick_rising (.inl hrise)
    ⟨(congrArg Pins.lastClk hpins).trans h.clockAt_lineTick.lastClk, (congrArg Pins.orw hpins).trans h.published⟩ hread
  have hir : t0.cpu.ir = Config.selReset := congrArg Pins.ir hpins
  -- micro-step 1
  obtain ⟨l1, t1, htick1, h1, hsame1, hcpu1⟩ := h0.ticks_cycle (us := (resetSequence s.cfg).drop 2)
    (g := fun c => { { c with tl := c.dbuf }.fetch (s.cfg.resetVector + 1) with cyc := 2 }) hcyc0
    (by rw [hir, hsame0.cfg]; rfl) (fun _ => .inl rfl) (fun _ => ⟨rfl, rfl⟩)
  have hir1 : t1.cpu.ir = Config.selReset := (congrArg Cpu.ir hcpu1).trans hir
  -- micro-step 2
  obtain ⟨l2, t2, htick2, h2, hsame2, hcpu2⟩ := h1.ticks_cycle (k := 1) (us := [])
    (g := fun c => { Cpu.retire { c with pc := word c.dbuf c.tl, resPend := false } with cyc := 0 })
    (congrArg Cpu.cyc hcpu1) (by rw [hir1, (hsame0.trans hsame1).cfg]; rfl) (fun _ => .inr rfl) (fun _ => ⟨rfl, rfl⟩)
  have hlow : t1.cpu.tl = s.peek s.cfg.resetVector := by
    rw [← haddr]; exact (congrArg Cpu.tl hcpu1).trans (hsame0.peek _)
  have hhigh : t1.peek t1.cpu.paddr = s.peek (s.cfg.resetVector + 1) :=
    (congrArg t1.peek (congrArg Cpu.paddr hcpu1)).trans ((hsame0.trans hsame1).peek _)
  have hregs1 : t1.cpu.regs = t0.cpu.regs := by rw [hcpu1]; rfl
  have hregs2 : t2.cpu.regs = { t1.cpu.regs with pc := word (t1.peek t1.cpu.paddr) t1.cpu.tl } := by
    rw [hcpu2]; rfl
  refine ⟨t2, ?_, h2, (hsame0.trans hsame1).trans hsame2, ?_, ?_, congrArg Cpu.resPend hcpu2,
    (congrArg Cpu.ir hcpu2).trans hir1⟩
  · rw [State.ticks_add_of_next (a := 1) ((State.ticks_one s).trans htick0) (2 + 2), State.ticks_add_of_next htick1 2, htick2]
  · rw [State.atBoundary, hcpu2]
    simp
  · rw [State.regs_cpu, hregs2, hregs1, hregs, hlow, hhigh]
    rfl

theorem Buses.resetLow_referencePlatform :
    ((((Buses.referencePlatform 1).reset.advance false).drive (resetInput Ports.reference).writes).get .res).level = false := by
  decide

theorem State.resetLow_powerOn {cfg : Config} (u : Unspecified) (hdiv : cfg.clkDiv = 1) (hports : cfg.ports = Ports.reference) :
    (State.powerOn cfg u [resetInput cfg.ports, resetInput cfg.ports]).startTick.level cfg.ports.res = false := by
  rw [State.powerOn, hdiv, hports]
  exact Buses.resetLow_referencePlatform

/-- Power-on with the reset line low in the first two ticks: the reference platform, and the CPU stages reads. -/
theorem State.fetching_powerOn {cfg : Config} (u : Unspecified) (image : Memory) (hdiv : cfg.clkDiv = 1)
    (horder : cfg.evalOrder = [.cpu, .mem 0]) (hports : cfg.ports = Ports.reference) :
    ({ State.powerOn cfg u [resetInput cfg.ports, resetInput cfg.ports] with
      mems := [{ MemDevice.new 16 8 .addr .data .gnd (some .rw) with cells := image }] } : State).Fetching false := by
  obtain ⟨resetVector, nmiVector, irqVector, stackBase, clkDiv, optable, evalOrder, ports⟩ := cfg
  subst hdiv horder hports
  exact ⟨rfl, rfl, List.forall_mem_cons.mpr ⟨rfl, List.forall_mem_singleton.mpr rfl⟩, ⟨rfl, rfl, rfl⟩, rfl, rfl, rfl⟩

end Sys2Proof.Machine

open Sys2Proof Sys2Proof.Machine

/-- Settles O54: power-on is a cycle 0 with the reset line low (`State.fetching_powerOn`), from which five ticks run RESET
(`State.Fetching.ticks_reset`). -/
theorem powerOnBootsThroughReset : Obligations.PowerOnBootsThroughReset := by
  intro cfg u image hdiv horder hports ram
  have hstart := State.fetching_powerOn u image hdiv horder hports
  obtain ⟨t, hticks, ht, hsame, hboundary, hregs, hres, hir⟩ :=
    hstart.ticks_reset rfl (State.resetLow_powerOn u hdiv hports)
  have hmems : t.mems = [ram] := hsame.mems
  refine ⟨t, hticks, ?_, hmems, hres, hir, fun harray => State.inv_iff.mpr
    ⟨ht.ready ?_, ht.clock, hboundary, ht.buses, State.arraysOk_iff.mpr ?_, ?_⟩⟩
  · rw [hregs, State.peek16, State.peek_plain (d := ram) rfl horder rfl rfl rfl,
      State.peek_plain (d := ram) rfl horder rfl rfl rfl]
    rfl
  · rw [hmems]
    exact List.forall_mem_singleton.mpr (Bool.and_eq_true_iff.mp harray).1
  · rw [hmems]
    exact List.forall_mem_singleton.mpr harray
  · have hp : t.cpu.p = 0x30 := congrArg Regs.p hregs
    rw [State.statusOk, hp]
    rfl
end
